-- ==== Sys2Proof/Word.lean ====
section
/-! DEFINITION. The word types of PLX 1.0 (00_scope.md R6, R7; 30_encoding.md R82).
A register value, an address and the pc are bit vectors of XLEN bits; XLEN is 32 or 64, so a stored value sits
zero-extended in a 64-bit cell (log 52). -/

namespace Sys2Proof

/-- One byte of memory (20_memory.md R50). -/
abbrev Byte := BitVec 8

/-- An instruction word: "PLX uses 32-bit instructions" (30_encoding.md R80). -/
abbrev IWord := BitVec 32

/-- The cell that stores an XLEN-bit value, zero-extended to 64 bits (log 52). -/
abbrev Cell64 := BitVec 64

/-- A general register number, R0 to R31 (10_state.md R21). -/
abbrev Reg := Fin 32

/-- A predicate register number of the active set, P0 to P7 (10_state.md R28). -/
abbrev Pred := Fin 8

/-- A predicate register set number, 0 to 15 (10_state.md R28). -/
abbrev PredSet := Fin 16

end Sys2Proof
end

