-- ==== Sys2Proof/Syntax.lean ====
section
/-! DEFINITION. The instructions of PLX 1.0: one constructor per row of spec/opcode_table.json, in the table's order
(30_encoding.md R81, R97). Every instruction carries its guard `p` (10_state.md R31) and the fields its form uses
(30_encoding.md R103); the fields PLX10 calls ignored are no part of the term (R100, log 61). `rd` is PLX10's Rd, which
is a source in store, testbit and jmp.reg; `pa` and `pb` are PLX10's operands "P1" and "P2". -/

namespace Sys2Proof

/-- An instruction term: mnemonic form, guard, and the fields that form uses (30_encoding.md R103). -/
inductive Instr where
  -- Program flow control (40_flow_control.md), rule R121
  | jmp (p : Pred) (imm23 : BitVec 23)
  -- Program flow control (40_flow_control.md), rule R122
  | jmpLink (p : Pred) (imm23 : BitVec 23)
  -- Program flow control (40_flow_control.md), rule R125
  | trap (p : Pred)
  -- Program flow control (40_flow_control.md), rule R123
  | jmpReg (p : Pred) (rd : Reg)
  -- Program flow control (40_flow_control.md), rule R124
  | jmpRegLink (p : Pred) (rd : Reg)
  -- Memory access (42_memory_access.md), rule R160
  | loadiHi (p : Pred) (rd : Reg) (imm16 : BitVec 16)
  -- Memory access (42_memory_access.md), rule R161
  | loadiLo (p : Pred) (rd : Reg) (imm16 : BitVec 16)
  -- Compare and predication (41_compare_predication.md), rule R144
  | cmpEq (p : Pred) (rs1 rs2 : Reg) (pa pb : Pred)
  | cmpNe (p : Pred) (rs1 rs2 : Reg) (pa pb : Pred)
  | cmpLt (p : Pred) (rs1 rs2 : Reg) (pa pb : Pred)
  | cmpLe (p : Pred) (rs1 rs2 : Reg) (pa pb : Pred)
  | cmpGt (p : Pred) (rs1 rs2 : Reg) (pa pb : Pred)
  | cmpGe (p : Pred) (rs1 rs2 : Reg) (pa pb : Pred)
  | cmpLtu (p : Pred) (rs1 rs2 : Reg) (pa pb : Pred)
  | cmpLeu (p : Pred) (rs1 rs2 : Reg) (pa pb : Pred)
  | cmpGtu (p : Pred) (rs1 rs2 : Reg) (pa pb : Pred)
  | cmpGeu (p : Pred) (rs1 rs2 : Reg) (pa pb : Pred)
  -- Compare and predication (41_compare_predication.md), rule R145
  | cmpiEq (p : Pred) (rs1 : Reg) (imm8 : BitVec 8) (pa pb : Pred)
  | cmpiNe (p : Pred) (rs1 : Reg) (imm8 : BitVec 8) (pa pb : Pred)
  | cmpiLt (p : Pred) (rs1 : Reg) (imm8 : BitVec 8) (pa pb : Pred)
  | cmpiLe (p : Pred) (rs1 : Reg) (imm8 : BitVec 8) (pa pb : Pred)
  | cmpiGt (p : Pred) (rs1 : Reg) (imm8 : BitVec 8) (pa pb : Pred)
  | cmpiGe (p : Pred) (rs1 : Reg) (imm8 : BitVec 8) (pa pb : Pred)
  | cmpiLtu (p : Pred) (rs1 : Reg) (imm8 : BitVec 8) (pa pb : Pred)
  | cmpiLeu (p : Pred) (rs1 : Reg) (imm8 : BitVec 8) (pa pb : Pred)
  | cmpiGtu (p : Pred) (rs1 : Reg) (imm8 : BitVec 8) (pa pb : Pred)
  | cmpiGeu (p : Pred) (rs1 : Reg) (imm8 : BitVec 8) (pa pb : Pred)
  -- Compare and predication (41_compare_predication.md), rule R146
  | testbit (p : Pred) (rd : Reg) (imm8 : BitVec 8) (pa pb : Pred)
  -- Compare and predication (41_compare_predication.md), rule R140
  | changepr (p : Pred) (imm4 : BitVec 4)
  -- Compare and predication (41_compare_predication.md), rule R141
  | changeprLd (p : Pred) (imm4 : BitVec 4) (imm8 : BitVec 8)
  -- Subword permutation (48_subword_permutation.md), rule R271
  | mix1L (p : Pred) (rd rs1 rs2 : Reg)
  | mix2L (p : Pred) (rd rs1 rs2 : Reg)
  | mix4L (p : Pred) (rd rs1 rs2 : Reg)
  -- Subword permutation (48_subword_permutation.md), rule R272
  | mix1R (p : Pred) (rd rs1 rs2 : Reg)
  | mix2R (p : Pred) (rd rs1 rs2 : Reg)
  | mix4R (p : Pred) (rd rs1 rs2 : Reg)
  -- Subword permutation (48_subword_permutation.md), rule R273
  | muxRev (p : Pred) (rd rs1 : Reg)
  -- Subword permutation (48_subword_permutation.md), rule R274
  | muxMix (p : Pred) (rd rs1 : Reg)
  -- Subword permutation (48_subword_permutation.md), rule R275
  | muxShuf (p : Pred) (rd rs1 : Reg)
  -- Subword permutation (48_subword_permutation.md), rule R276
  | muxAlt (p : Pred) (rd rs1 : Reg)
  -- Subword permutation (48_subword_permutation.md), rule R277
  | muxBrcst (p : Pred) (rd rs1 : Reg)
  -- Subword permutation (48_subword_permutation.md), rule R280
  | perm (p : Pred) (rd rs1 rs2 : Reg)
  -- Memory access (42_memory_access.md), rule R164
  | load1 (p : Pred) (rd rs1 : Reg) (imm13 : BitVec 13)
  | load2 (p : Pred) (rd rs1 : Reg) (imm13 : BitVec 13)
  | load4 (p : Pred) (rd rs1 : Reg) (imm13 : BitVec 13)
  | load8 (p : Pred) (rd rs1 : Reg) (imm13 : BitVec 13)
  -- Memory access (42_memory_access.md), rule R165
  | load1Update (p : Pred) (rd rs1 : Reg) (imm13 : BitVec 13)
  | load2Update (p : Pred) (rd rs1 : Reg) (imm13 : BitVec 13)
  | load4Update (p : Pred) (rd rs1 : Reg) (imm13 : BitVec 13)
  | load8Update (p : Pred) (rd rs1 : Reg) (imm13 : BitVec 13)
  -- Memory access (42_memory_access.md), rule R166
  | store1 (p : Pred) (rd rs1 : Reg) (imm13 : BitVec 13)
  | store2 (p : Pred) (rd rs1 : Reg) (imm13 : BitVec 13)
  | store4 (p : Pred) (rd rs1 : Reg) (imm13 : BitVec 13)
  | store8 (p : Pred) (rd rs1 : Reg) (imm13 : BitVec 13)
  -- Memory access (42_memory_access.md), rule R167
  | store1Update (p : Pred) (rd rs1 : Reg) (imm13 : BitVec 13)
  | store2Update (p : Pred) (rd rs1 : Reg) (imm13 : BitVec 13)
  | store4Update (p : Pred) (rd rs1 : Reg) (imm13 : BitVec 13)
  | store8Update (p : Pred) (rd rs1 : Reg) (imm13 : BitVec 13)
  -- ALU immediate (43_alu_immediate.md), rule R181
  | addi (p : Pred) (rd rs1 : Reg) (imm13 : BitVec 13)
  -- ALU immediate (43_alu_immediate.md), rule R184
  | subi (p : Pred) (rd rs1 : Reg) (imm13 : BitVec 13)
  -- ALU immediate (43_alu_immediate.md), rule R182
  | andi (p : Pred) (rd rs1 : Reg) (imm13 : BitVec 13)
  -- ALU immediate (43_alu_immediate.md), rule R183
  | ori (p : Pred) (rd rs1 : Reg) (imm13 : BitVec 13)
  -- ALU immediate (43_alu_immediate.md), rule R185
  | xori (p : Pred) (rd rs1 : Reg) (imm13 : BitVec 13)
  -- Shift and bit field (44_shift_bitfield.md), rule R191
  | slli (p : Pred) (rd rs1 : Reg) (imm13 : BitVec 13)
  -- Shift and bit field (44_shift_bitfield.md), rule R193
  | srli (p : Pred) (rd rs1 : Reg) (imm13 : BitVec 13)
  -- Shift and bit field (44_shift_bitfield.md), rule R192
  | srai (p : Pred) (rd rs1 : Reg) (imm13 : BitVec 13)
  -- Shift and bit field (44_shift_bitfield.md), rule R194
  | shrp (p : Pred) (rd rs1 rs2 : Reg) (imm8 : BitVec 8)
  -- Shift and bit field (44_shift_bitfield.md), rule R195
  | extract (p : Pred) (rd rs1 : Reg) (imm7 : BitVec 7) (imm6 : BitVec 6)
  -- Shift and bit field (44_shift_bitfield.md), rule R196
  | deposit (p : Pred) (rd rs1 : Reg) (imm7 : BitVec 7) (imm6 : BitVec 6)
  -- ALU packed and logical (45_alu_packed.md), rule R211
  | padd1 (p : Pred) (rd rs1 rs2 : Reg)
  | padd2 (p : Pred) (rd rs1 rs2 : Reg)
  | padd4 (p : Pred) (rd rs1 rs2 : Reg)
  | padd8 (p : Pred) (rd rs1 rs2 : Reg)
  -- ALU packed and logical (45_alu_packed.md), rule R212
  | padd1U (p : Pred) (rd rs1 rs2 : Reg)
  | padd2U (p : Pred) (rd rs1 rs2 : Reg)
  | padd4U (p : Pred) (rd rs1 rs2 : Reg)
  | padd8U (p : Pred) (rd rs1 rs2 : Reg)
  -- ALU packed and logical (45_alu_packed.md), rule R213
  | padd1S (p : Pred) (rd rs1 rs2 : Reg)
  | padd2S (p : Pred) (rd rs1 rs2 : Reg)
  | padd4S (p : Pred) (rd rs1 rs2 : Reg)
  | padd8S (p : Pred) (rd rs1 rs2 : Reg)
  -- ALU packed and logical (45_alu_packed.md), rule R214
  | paddincr1 (p : Pred) (rd rs1 rs2 : Reg)
  | paddincr2 (p : Pred) (rd rs1 rs2 : Reg)
  | paddincr4 (p : Pred) (rd rs1 rs2 : Reg)
  | paddincr8 (p : Pred) (rd rs1 rs2 : Reg)
  -- ALU packed and logical (45_alu_packed.md), rule R215
  | psub1 (p : Pred) (rd rs1 rs2 : Reg)
  | psub2 (p : Pred) (rd rs1 rs2 : Reg)
  | psub4 (p : Pred) (rd rs1 rs2 : Reg)
  | psub8 (p : Pred) (rd rs1 rs2 : Reg)
  -- ALU packed and logical (45_alu_packed.md), rule R216
  | psub1U (p : Pred) (rd rs1 rs2 : Reg)
  | psub2U (p : Pred) (rd rs1 rs2 : Reg)
  | psub4U (p : Pred) (rd rs1 rs2 : Reg)
  | psub8U (p : Pred) (rd rs1 rs2 : Reg)
  -- ALU packed and logical (45_alu_packed.md), rule R217
  | psub1S (p : Pred) (rd rs1 rs2 : Reg)
  | psub2S (p : Pred) (rd rs1 rs2 : Reg)
  | psub4S (p : Pred) (rd rs1 rs2 : Reg)
  | psub8S (p : Pred) (rd rs1 rs2 : Reg)
  -- ALU packed and logical (45_alu_packed.md), rule R218
  | psubdecr1 (p : Pred) (rd rs1 rs2 : Reg)
  | psubdecr2 (p : Pred) (rd rs1 rs2 : Reg)
  | psubdecr4 (p : Pred) (rd rs1 rs2 : Reg)
  | psubdecr8 (p : Pred) (rd rs1 rs2 : Reg)
  -- ALU packed and logical (45_alu_packed.md), rule R219
  | pavg1 (p : Pred) (rd rs1 rs2 : Reg)
  | pavg2 (p : Pred) (rd rs1 rs2 : Reg)
  -- ALU packed and logical (45_alu_packed.md), rule R220
  | pavg1Raz (p : Pred) (rd rs1 rs2 : Reg)
  | pavg2Raz (p : Pred) (rd rs1 rs2 : Reg)
  -- ALU packed and logical (45_alu_packed.md), rule R221
  | psubavg1 (p : Pred) (rd rs1 rs2 : Reg)
  | psubavg2 (p : Pred) (rd rs1 rs2 : Reg)
  -- ALU packed and logical (45_alu_packed.md), rule R222
  | andReg (p : Pred) (rd rs1 rs2 : Reg)
  -- ALU packed and logical (45_alu_packed.md), rule R223
  | andcm (p : Pred) (rd rs1 rs2 : Reg)
  -- ALU packed and logical (45_alu_packed.md), rule R224
  | orReg (p : Pred) (rd rs1 rs2 : Reg)
  -- ALU packed and logical (45_alu_packed.md), rule R225
  | xorReg (p : Pred) (rd rs1 rs2 : Reg)
  -- ALU packed and logical (45_alu_packed.md), rule R226
  | notReg (p : Pred) (rd rs1 : Reg)
  -- ALU packed and logical (45_alu_packed.md), rule R227
  | pcmp1Eq (p : Pred) (rd rs1 rs2 : Reg)
  | pcmp2Eq (p : Pred) (rd rs1 rs2 : Reg)
  | pcmp4Eq (p : Pred) (rd rs1 rs2 : Reg)
  | pcmp8Eq (p : Pred) (rd rs1 rs2 : Reg)
  -- ALU packed and logical (45_alu_packed.md), rule R228
  | pcmp1Gt (p : Pred) (rd rs1 rs2 : Reg)
  | pcmp2Gt (p : Pred) (rd rs1 rs2 : Reg)
  | pcmp4Gt (p : Pred) (rd rs1 rs2 : Reg)
  | pcmp8Gt (p : Pred) (rd rs1 rs2 : Reg)
  -- ALU packed and logical (45_alu_packed.md), rule R229
  | pmax1 (p : Pred) (rd rs1 rs2 : Reg)
  | pmax2 (p : Pred) (rd rs1 rs2 : Reg)
  -- ALU packed and logical (45_alu_packed.md), rule R230
  | pmin1 (p : Pred) (rd rs1 rs2 : Reg)
  | pmin2 (p : Pred) (rd rs1 rs2 : Reg)
  -- ALU packed and logical (45_alu_packed.md), rule R231
  | pshiftadd1L (p : Pred) (rd rs1 rs2 : Reg)
  | pshiftadd2L (p : Pred) (rd rs1 rs2 : Reg)
  | pshiftadd3L (p : Pred) (rd rs1 rs2 : Reg)
  -- ALU packed and logical (45_alu_packed.md), rule R232
  | pshiftadd1R (p : Pred) (rd rs1 rs2 : Reg)
  | pshiftadd2R (p : Pred) (rd rs1 rs2 : Reg)
  | pshiftadd3R (p : Pred) (rd rs1 rs2 : Reg)
  -- Multiply packed (46_multiply_packed.md), rule R251
  | pmulOdd (p : Pred) (rd rs1 rs2 : Reg)
  -- Multiply packed (46_multiply_packed.md), rule R252
  | pmulEven (p : Pred) (rd rs1 rs2 : Reg)
  -- Multiply packed (46_multiply_packed.md), rule R253
  | pmulshr0 (p : Pred) (rd rs1 rs2 : Reg)
  | pmulshr8 (p : Pred) (rd rs1 rs2 : Reg)
  | pmulshr15 (p : Pred) (rd rs1 rs2 : Reg)
  | pmulshr16 (p : Pred) (rd rs1 rs2 : Reg)
  -- Multiply packed (46_multiply_packed.md), rule R254
  | pmulshr0A (p : Pred) (rd rs1 rs2 : Reg)
  | pmulshr8A (p : Pred) (rd rs1 rs2 : Reg)
  | pmulshr15A (p : Pred) (rd rs1 rs2 : Reg)
  | pmulshr16A (p : Pred) (rd rs1 rs2 : Reg)
  -- Shift packed (47_shift_packed.md), rule R261
  | pshift2L (p : Pred) (rd rs1 rs2 : Reg)
  | pshift4L (p : Pred) (rd rs1 rs2 : Reg)
  | pshift8L (p : Pred) (rd rs1 rs2 : Reg)
  -- Shift packed (47_shift_packed.md), rule R262
  | pshift2R (p : Pred) (rd rs1 rs2 : Reg)
  | pshift4R (p : Pred) (rd rs1 rs2 : Reg)
  | pshift8R (p : Pred) (rd rs1 rs2 : Reg)
  -- Shift packed (47_shift_packed.md), rule R263
  | pshift2Ra (p : Pred) (rd rs1 rs2 : Reg)
  | pshift4Ra (p : Pred) (rd rs1 rs2 : Reg)
  | pshift8Ra (p : Pred) (rd rs1 rs2 : Reg)
  -- Shift packed (47_shift_packed.md), rule R264
  | pshifti2L (p : Pred) (rd rs1 : Reg) (imm5 : BitVec 5)
  | pshifti4L (p : Pred) (rd rs1 : Reg) (imm5 : BitVec 5)
  | pshifti8L (p : Pred) (rd rs1 : Reg) (imm5 : BitVec 5)
  -- Shift packed (47_shift_packed.md), rule R265
  | pshifti2R (p : Pred) (rd rs1 : Reg) (imm5 : BitVec 5)
  | pshifti4R (p : Pred) (rd rs1 : Reg) (imm5 : BitVec 5)
  | pshifti8R (p : Pred) (rd rs1 : Reg) (imm5 : BitVec 5)
  -- Shift packed (47_shift_packed.md), rule R266
  | pshifti2Ra (p : Pred) (rd rs1 : Reg) (imm5 : BitVec 5)
  | pshifti4Ra (p : Pred) (rd rs1 : Reg) (imm5 : BitVec 5)
  | pshifti8Ra (p : Pred) (rd rs1 : Reg) (imm5 : BitVec 5)
deriving DecidableEq, Repr

end Sys2Proof
end

