-- ==== Sys2Proof/Config.lean ====
section
/-! DEFINITION. The parameters of the model (00_scope.md R5, 92_eei_decisions.md section 5), as one record of plain
data: one field per row of R5 that the spec leaves open or makes a parameter. A machine's configuration never
changes while it runs. -/

namespace Sys2Proof

/-- The register size XLEN: 64 by default, 32 admitted, 128 out of scope (00_scope.md R3, D1; log 1). -/
inductive Xlen where
  | x32
  | x64
deriving DecidableEq, Repr

/-- XLEN in bits. -/
def Xlen.bits : Xlen → Nat
  | .x32 => 32
  | .x64 => 64

/-- `ENCODING`, "the map from 32-bit words to instructions" (00_scope.md R5, 92_eei_decisions.md D2; log 2), as plain
data. There are 2^32 words, so a table can hold any such map; `decodeUnder` of Decode.lean reads it. -/
inductive Encoding where
  /-- the reference encoding of 30_encoding.md R84 to R105 -/
  | reference
  /-- the words that have a meaning, with their instructions; a word not listed is reserved, and the first row counts -/
  | table (rows : List (IWord × Instr))
deriving DecidableEq, Repr

/-- `BYTE_ORDER` (20_memory.md R54, D3; log 3). -/
inductive ByteOrder where
  | big
  | little
deriving DecidableEq, Repr

/-- `LOAD_EXTEND` (42_memory_access.md R163, D7; log 7). -/
inductive LoadExtend where
  | zero
  | sign
deriving DecidableEq, Repr

/-- `PSHIFTADD_SHIFT` (45_alu_packed.md R231, D24; log 24). -/
inductive ShiftAddShift where
  | modular
  | saturating
deriving DecidableEq, Repr

/-- `PSUBAVG_TOP` (45_alu_packed.md R221, D22; log 22). -/
inductive SubAvgTop where
  | borrow
  | carry
deriving DecidableEq, Repr

/-- An end of a register: left is the most significant one (00_scope.md R6). -/
inductive Side where
  | left
  | right
deriving DecidableEq, Repr

/-- `PERM_LAYOUT` (48_subword_permutation.md R280, D26, U12; log 26): which result subword the leftmost selector
group controls, and from which end a selector value counts the source subwords. -/
structure PermLayout where
  /-- the end of the result whose subword the leftmost selector group controls -/
  selectors : Side
  /-- the end of the source from which selector value 0 counts -/
  counting : Side
deriving DecidableEq, Repr

/-- `MUX_TABLE` (48_subword_permutation.md R278, D27; log 27): for each form the ordinals (from 1, the leftmost byte)
of the source bytes that the result bytes receive, from the left. -/
structure MuxTable where
  mix : List Nat
  shuf : List Nat
  alt : List Nat
deriving DecidableEq, Repr

/-- The reference tables of 48_subword_permutation.md R278: the rows printed for XLEN = 64, and `[B1 B3 B2 B4]` for all
three forms at XLEN = 32. -/
def MuxTable.reference : Xlen → MuxTable
  | .x64 => { mix := [1, 5, 3, 7, 2, 6, 4, 8], shuf := [1, 5, 2, 6, 3, 7, 4, 8], alt := [1, 3, 5, 7, 2, 4, 6, 8] }
  | .x32 => { mix := [1, 3, 2, 4], shuf := [1, 3, 2, 4], alt := [1, 3, 2, 4] }

/-- A run of `size` byte addresses from `base`. -/
structure Region where
  base : Nat
  size : Nat
deriving DecidableEq, Repr

/-- The address lies in the region. -/
def Region.holds (r : Region) (a : Nat) : Bool :=
  decide (r.base ≤ a) && decide (a < r.base + r.size)

/-- The configuration of a machine (00_scope.md R5). -/
structure Config where
  /-- `XLEN` -/
  xlen : Xlen
  /-- `ENCODING` -/
  encoding : Encoding
  /-- `BYTE_ORDER` -/
  byteOrder : ByteOrder
  /-- `LOAD_EXTEND` -/
  loadExtend : LoadExtend
  /-- `TRAP_PREDICATED` (40_flow_control.md R125, D11; log 11) -/
  trapPredicated : Bool
  /-- `PSHIFTADD_SHIFT` -/
  shiftAddShift : ShiftAddShift
  /-- `PSUBAVG_TOP` -/
  subAvgTop : SubAvgTop
  /-- `MUX_TABLE` -/
  muxTable : MuxTable
  /-- `PERM_LAYOUT` -/
  permLayout : PermLayout
  /-- `MEM_MAP`, the byte addresses that hold memory (20_memory.md R59, D6; log 6) -/
  memMap : List Region
  /-- `TEXT`, the program text, within MEM_MAP (20_memory.md R65, D32; log 32) -/
  text : List Region
  /-- `RESET_PC` (70_reset_and_hazards.md R330, D29; log 29) -/
  resetPc : Nat
deriving DecidableEq, Repr

/-- `NGR`, the number of general registers (00_scope.md R5). -/
def Config.NGR : Nat := 32
/-- `NPR`, the predicate registers of one set (00_scope.md R5). -/
def Config.NPR : Nat := 8
/-- `NPS`, the predicate register sets (00_scope.md R5). -/
def Config.NPS : Nat := 16
/-- `ILEN`, the instruction length in bits (00_scope.md R5). -/
def Config.ILEN : Nat := 32
/-- `MAXSW`, the largest subword size in bytes (00_scope.md R5). -/
def Config.maxSw (c : Config) : Nat := min 8 (c.xlen.bits / 8)

/-- The address is an XLEN-bit address that `MEM_MAP` backs with memory (20_memory.md R59). -/
def Config.mapped (c : Config) (a : Nat) : Bool :=
  decide (a < 2 ^ c.xlen.bits) && c.memMap.any (·.holds a)

/-- The address lies in the program text (20_memory.md R65). -/
def Config.inText (c : Config) (a : Nat) : Bool := c.text.any (·.holds a)

/-- A table of ordinals is a permutation of 1 to n. -/
def MuxTable.isPermutation (n : Nat) (l : List Nat) : Bool :=
  decide (l.length = n) && (List.range n).all (fun i => l.contains (i + 1))

/-- What 00_scope.md R5, 20_memory.md R65 and 70_reset_and_hazards.md R330 ask of a configuration: the mux tables are
byte permutations, TEXT lies in MEM_MAP (region by region), and RESET_PC is a multiple of 4 in MEM_MAP. -/
def Config.wf (c : Config) : Bool :=
  MuxTable.isPermutation (c.xlen.bits / 8) c.muxTable.mix
    && MuxTable.isPermutation (c.xlen.bits / 8) c.muxTable.shuf
    && MuxTable.isPermutation (c.xlen.bits / 8) c.muxTable.alt
    && c.text.all (fun t => c.memMap.any fun m =>
        decide (m.base ≤ t.base) && decide (t.base + t.size ≤ m.base + m.size))
    && decide (c.resetPc % 4 = 0) && c.mapped c.resetPc

/-- The reference configuration for one register size: the reference values of 00_scope.md R5; MEM_MAP is the whole
address space (log 55, DESIGN CHOICE) and TEXT is empty, no program being loaded (log 56, DESIGN CHOICE). -/
def Config.referenceAt (x : Xlen) : Config where
  xlen := x
  encoding := .reference
  byteOrder := .big
  loadExtend := .zero
  trapPredicated := true
  shiftAddShift := .modular
  subAvgTop := .borrow
  muxTable := MuxTable.reference x
  permLayout := { selectors := .left, counting := .left }
  memMap := [{ base := 0, size := 2 ^ x.bits }]
  text := []
  resetPc := 0

/-- The reference configuration at PLX10's default size (00_scope.md R3). -/
def Config.reference : Config := Config.referenceAt .x64

/-- A FREE VALUE: what the memory byte at an address held before anything wrote it (10_state.md R36 "unspecified",
93_implementation_defined.md U18 "any value"; log 57). It has no body, so a claim about it holds for every content. -/
opaque Config.freeByte : Nat → Byte

end Sys2Proof
end

