-- ==== Sys2Proof/WellFormed.lean ====
section
/-! DEFINITION. Which instruction terms exist on an implementation (30_encoding.md R105): "an instruction with subword
size sw exists only if 8·sw ≤ XLEN", and mix.sw needs two subwords. Every other bound on an operand is in its type. -/

namespace Sys2Proof

/-- The least XLEN at which the form exists: the column `xlen_min` of spec/opcode_table.json, which states
30_encoding.md R105. -/
def Instr.minXlen : Instr → Nat
  | .jmp _ _ => 32
  | .jmpLink _ _ => 32
  | .trap _ => 32
  | .jmpReg _ _ => 32
  | .jmpRegLink _ _ => 32
  | .loadiHi _ _ _ => 32
  | .loadiLo _ _ _ => 32
  | .cmpEq _ _ _ _ _ => 32
  | .cmpNe _ _ _ _ _ => 32
  | .cmpLt _ _ _ _ _ => 32
  | .cmpLe _ _ _ _ _ => 32
  | .cmpGt _ _ _ _ _ => 32
  | .cmpGe _ _ _ _ _ => 32
  | .cmpLtu _ _ _ _ _ => 32
  | .cmpLeu _ _ _ _ _ => 32
  | .cmpGtu _ _ _ _ _ => 32
  | .cmpGeu _ _ _ _ _ => 32
  | .cmpiEq _ _ _ _ _ => 32
  | .cmpiNe _ _ _ _ _ => 32
  | .cmpiLt _ _ _ _ _ => 32
  | .cmpiLe _ _ _ _ _ => 32
  | .cmpiGt _ _ _ _ _ => 32
  | .cmpiGe _ _ _ _ _ => 32
  | .cmpiLtu _ _ _ _ _ => 32
  | .cmpiLeu _ _ _ _ _ => 32
  | .cmpiGtu _ _ _ _ _ => 32
  | .cmpiGeu _ _ _ _ _ => 32
  | .testbit _ _ _ _ _ => 32
  | .changepr _ _ => 32
  | .changeprLd _ _ _ => 32
  | .mix1L _ _ _ _ => 32
  | .mix2L _ _ _ _ => 32
  | .mix4L _ _ _ _ => 64
  | .mix1R _ _ _ _ => 32
  | .mix2R _ _ _ _ => 32
  | .mix4R _ _ _ _ => 64
  | .muxRev _ _ _ => 32
  | .muxMix _ _ _ => 32
  | .muxShuf _ _ _ => 32
  | .muxAlt _ _ _ => 32
  | .muxBrcst _ _ _ => 32
  | .perm _ _ _ _ => 32
  | .load1 _ _ _ _ => 32
  | .load2 _ _ _ _ => 32
  | .load4 _ _ _ _ => 32
  | .load8 _ _ _ _ => 64
  | .load1Update _ _ _ _ => 32
  | .load2Update _ _ _ _ => 32
  | .load4Update _ _ _ _ => 32
  | .load8Update _ _ _ _ => 64
  | .store1 _ _ _ _ => 32
  | .store2 _ _ _ _ => 32
  | .store4 _ _ _ _ => 32
  | .store8 _ _ _ _ => 64
  | .store1Update _ _ _ _ => 32
  | .store2Update _ _ _ _ => 32
  | .store4Update _ _ _ _ => 32
  | .store8Update _ _ _ _ => 64
  | .addi _ _ _ _ => 32
  | .subi _ _ _ _ => 32
  | .andi _ _ _ _ => 32
  | .ori _ _ _ _ => 32
  | .xori _ _ _ _ => 32
  | .slli _ _ _ _ => 32
  | .srli _ _ _ _ => 32
  | .srai _ _ _ _ => 32
  | .shrp _ _ _ _ _ => 32
  | .extract _ _ _ _ _ => 32
  | .deposit _ _ _ _ _ => 32
  | .padd1 _ _ _ _ => 32
  | .padd2 _ _ _ _ => 32
  | .padd4 _ _ _ _ => 32
  | .padd8 _ _ _ _ => 64
  | .padd1U _ _ _ _ => 32
  | .padd2U _ _ _ _ => 32
  | .padd4U _ _ _ _ => 32
  | .padd8U _ _ _ _ => 64
  | .padd1S _ _ _ _ => 32
  | .padd2S _ _ _ _ => 32
  | .padd4S _ _ _ _ => 32
  | .padd8S _ _ _ _ => 64
  | .paddincr1 _ _ _ _ => 32
  | .paddincr2 _ _ _ _ => 32
  | .paddincr4 _ _ _ _ => 32
  | .paddincr8 _ _ _ _ => 64
  | .psub1 _ _ _ _ => 32
  | .psub2 _ _ _ _ => 32
  | .psub4 _ _ _ _ => 32
  | .psub8 _ _ _ _ => 64
  | .psub1U _ _ _ _ => 32
  | .psub2U _ _ _ _ => 32
  | .psub4U _ _ _ _ => 32
  | .psub8U _ _ _ _ => 64
  | .psub1S _ _ _ _ => 32
  | .psub2S _ _ _ _ => 32
  | .psub4S _ _ _ _ => 32
  | .psub8S _ _ _ _ => 64
  | .psubdecr1 _ _ _ _ => 32
  | .psubdecr2 _ _ _ _ => 32
  | .psubdecr4 _ _ _ _ => 32
  | .psubdecr8 _ _ _ _ => 64
  | .pavg1 _ _ _ _ => 32
  | .pavg2 _ _ _ _ => 32
  | .pavg1Raz _ _ _ _ => 32
  | .pavg2Raz _ _ _ _ => 32
  | .psubavg1 _ _ _ _ => 32
  | .psubavg2 _ _ _ _ => 32
  | .andReg _ _ _ _ => 32
  | .andcm _ _ _ _ => 32
  | .orReg _ _ _ _ => 32
  | .xorReg _ _ _ _ => 32
  | .notReg _ _ _ => 32
  | .pcmp1Eq _ _ _ _ => 32
  | .pcmp2Eq _ _ _ _ => 32
  | .pcmp4Eq _ _ _ _ => 32
  | .pcmp8Eq _ _ _ _ => 64
  | .pcmp1Gt _ _ _ _ => 32
  | .pcmp2Gt _ _ _ _ => 32
  | .pcmp4Gt _ _ _ _ => 32
  | .pcmp8Gt _ _ _ _ => 64
  | .pmax1 _ _ _ _ => 32
  | .pmax2 _ _ _ _ => 32
  | .pmin1 _ _ _ _ => 32
  | .pmin2 _ _ _ _ => 32
  | .pshiftadd1L _ _ _ _ => 32
  | .pshiftadd2L _ _ _ _ => 32
  | .pshiftadd3L _ _ _ _ => 32
  | .pshiftadd1R _ _ _ _ => 32
  | .pshiftadd2R _ _ _ _ => 32
  | .pshiftadd3R _ _ _ _ => 32
  | .pmulOdd _ _ _ _ => 32
  | .pmulEven _ _ _ _ => 32
  | .pmulshr0 _ _ _ _ => 32
  | .pmulshr8 _ _ _ _ => 32
  | .pmulshr15 _ _ _ _ => 32
  | .pmulshr16 _ _ _ _ => 32
  | .pmulshr0A _ _ _ _ => 32
  | .pmulshr8A _ _ _ _ => 32
  | .pmulshr15A _ _ _ _ => 32
  | .pmulshr16A _ _ _ _ => 32
  | .pshift2L _ _ _ _ => 32
  | .pshift4L _ _ _ _ => 32
  | .pshift8L _ _ _ _ => 64
  | .pshift2R _ _ _ _ => 32
  | .pshift4R _ _ _ _ => 32
  | .pshift8R _ _ _ _ => 64
  | .pshift2Ra _ _ _ _ => 32
  | .pshift4Ra _ _ _ _ => 32
  | .pshift8Ra _ _ _ _ => 64
  | .pshifti2L _ _ _ _ => 32
  | .pshifti4L _ _ _ _ => 32
  | .pshifti8L _ _ _ _ => 64
  | .pshifti2R _ _ _ _ => 32
  | .pshifti4R _ _ _ _ => 32
  | .pshifti8R _ _ _ _ => 64
  | .pshifti2Ra _ _ _ _ => 32
  | .pshifti4Ra _ _ _ _ => 32
  | .pshifti8Ra _ _ _ _ => 64

/-- The term is an instruction of the implementation with this register size (30_encoding.md R105). -/
def Instr.wf (x : Xlen) (i : Instr) : Bool := decide (i.minXlen ≤ x.bits)

/-- The guard field of an instruction, "(P)" (10_state.md R31). -/
def Instr.guardField : Instr → Pred
  | .jmp p _ => p
  | .jmpLink p _ => p
  | .trap p => p
  | .jmpReg p _ => p
  | .jmpRegLink p _ => p
  | .loadiHi p _ _ => p
  | .loadiLo p _ _ => p
  | .cmpEq p _ _ _ _ => p
  | .cmpNe p _ _ _ _ => p
  | .cmpLt p _ _ _ _ => p
  | .cmpLe p _ _ _ _ => p
  | .cmpGt p _ _ _ _ => p
  | .cmpGe p _ _ _ _ => p
  | .cmpLtu p _ _ _ _ => p
  | .cmpLeu p _ _ _ _ => p
  | .cmpGtu p _ _ _ _ => p
  | .cmpGeu p _ _ _ _ => p
  | .cmpiEq p _ _ _ _ => p
  | .cmpiNe p _ _ _ _ => p
  | .cmpiLt p _ _ _ _ => p
  | .cmpiLe p _ _ _ _ => p
  | .cmpiGt p _ _ _ _ => p
  | .cmpiGe p _ _ _ _ => p
  | .cmpiLtu p _ _ _ _ => p
  | .cmpiLeu p _ _ _ _ => p
  | .cmpiGtu p _ _ _ _ => p
  | .cmpiGeu p _ _ _ _ => p
  | .testbit p _ _ _ _ => p
  | .changepr p _ => p
  | .changeprLd p _ _ => p
  | .mix1L p _ _ _ => p
  | .mix2L p _ _ _ => p
  | .mix4L p _ _ _ => p
  | .mix1R p _ _ _ => p
  | .mix2R p _ _ _ => p
  | .mix4R p _ _ _ => p
  | .muxRev p _ _ => p
  | .muxMix p _ _ => p
  | .muxShuf p _ _ => p
  | .muxAlt p _ _ => p
  | .muxBrcst p _ _ => p
  | .perm p _ _ _ => p
  | .load1 p _ _ _ => p
  | .load2 p _ _ _ => p
  | .load4 p _ _ _ => p
  | .load8 p _ _ _ => p
  | .load1Update p _ _ _ => p
  | .load2Update p _ _ _ => p
  | .load4Update p _ _ _ => p
  | .load8Update p _ _ _ => p
  | .store1 p _ _ _ => p
  | .store2 p _ _ _ => p
  | .store4 p _ _ _ => p
  | .store8 p _ _ _ => p
  | .store1Update p _ _ _ => p
  | .store2Update p _ _ _ => p
  | .store4Update p _ _ _ => p
  | .store8Update p _ _ _ => p
  | .addi p _ _ _ => p
  | .subi p _ _ _ => p
  | .andi p _ _ _ => p
  | .ori p _ _ _ => p
  | .xori p _ _ _ => p
  | .slli p _ _ _ => p
  | .srli p _ _ _ => p
  | .srai p _ _ _ => p
  | .shrp p _ _ _ _ => p
  | .extract p _ _ _ _ => p
  | .deposit p _ _ _ _ => p
  | .padd1 p _ _ _ => p
  | .padd2 p _ _ _ => p
  | .padd4 p _ _ _ => p
  | .padd8 p _ _ _ => p
  | .padd1U p _ _ _ => p
  | .padd2U p _ _ _ => p
  | .padd4U p _ _ _ => p
  | .padd8U p _ _ _ => p
  | .padd1S p _ _ _ => p
  | .padd2S p _ _ _ => p
  | .padd4S p _ _ _ => p
  | .padd8S p _ _ _ => p
  | .paddincr1 p _ _ _ => p
  | .paddincr2 p _ _ _ => p
  | .paddincr4 p _ _ _ => p
  | .paddincr8 p _ _ _ => p
  | .psub1 p _ _ _ => p
  | .psub2 p _ _ _ => p
  | .psub4 p _ _ _ => p
  | .psub8 p _ _ _ => p
  | .psub1U p _ _ _ => p
  | .psub2U p _ _ _ => p
  | .psub4U p _ _ _ => p
  | .psub8U p _ _ _ => p
  | .psub1S p _ _ _ => p
  | .psub2S p _ _ _ => p
  | .psub4S p _ _ _ => p
  | .psub8S p _ _ _ => p
  | .psubdecr1 p _ _ _ => p
  | .psubdecr2 p _ _ _ => p
  | .psubdecr4 p _ _ _ => p
  | .psubdecr8 p _ _ _ => p
  | .pavg1 p _ _ _ => p
  | .pavg2 p _ _ _ => p
  | .pavg1Raz p _ _ _ => p
  | .pavg2Raz p _ _ _ => p
  | .psubavg1 p _ _ _ => p
  | .psubavg2 p _ _ _ => p
  | .andReg p _ _ _ => p
  | .andcm p _ _ _ => p
  | .orReg p _ _ _ => p
  | .xorReg p _ _ _ => p
  | .notReg p _ _ => p
  | .pcmp1Eq p _ _ _ => p
  | .pcmp2Eq p _ _ _ => p
  | .pcmp4Eq p _ _ _ => p
  | .pcmp8Eq p _ _ _ => p
  | .pcmp1Gt p _ _ _ => p
  | .pcmp2Gt p _ _ _ => p
  | .pcmp4Gt p _ _ _ => p
  | .pcmp8Gt p _ _ _ => p
  | .pmax1 p _ _ _ => p
  | .pmax2 p _ _ _ => p
  | .pmin1 p _ _ _ => p
  | .pmin2 p _ _ _ => p
  | .pshiftadd1L p _ _ _ => p
  | .pshiftadd2L p _ _ _ => p
  | .pshiftadd3L p _ _ _ => p
  | .pshiftadd1R p _ _ _ => p
  | .pshiftadd2R p _ _ _ => p
  | .pshiftadd3R p _ _ _ => p
  | .pmulOdd p _ _ _ => p
  | .pmulEven p _ _ _ => p
  | .pmulshr0 p _ _ _ => p
  | .pmulshr8 p _ _ _ => p
  | .pmulshr15 p _ _ _ => p
  | .pmulshr16 p _ _ _ => p
  | .pmulshr0A p _ _ _ => p
  | .pmulshr8A p _ _ _ => p
  | .pmulshr15A p _ _ _ => p
  | .pmulshr16A p _ _ _ => p
  | .pshift2L p _ _ _ => p
  | .pshift4L p _ _ _ => p
  | .pshift8L p _ _ _ => p
  | .pshift2R p _ _ _ => p
  | .pshift4R p _ _ _ => p
  | .pshift8R p _ _ _ => p
  | .pshift2Ra p _ _ _ => p
  | .pshift4Ra p _ _ _ => p
  | .pshift8Ra p _ _ _ => p
  | .pshifti2L p _ _ _ => p
  | .pshifti4L p _ _ _ => p
  | .pshifti8L p _ _ _ => p
  | .pshifti2R p _ _ _ => p
  | .pshifti4R p _ _ _ => p
  | .pshifti8R p _ _ _ => p
  | .pshifti2Ra p _ _ _ => p
  | .pshifti4Ra p _ _ _ => p
  | .pshifti8Ra p _ _ _ => p

end Sys2Proof
end

