-- ==== Sys2Proof/Decode.lean ====
section
/-! DEFINITION. The reference encoding of 30_encoding.md (R84 to R105, decision D2, log 2): fields, the total decoder
that rejects by name, the encoder, and the laying out of a word as bytes. -/

namespace Sys2Proof

/-- Why a word is reserved, under the reference encoding (30_encoding.md R99) or a table (`decodeUnder`). Each makes the step raise `IllegalInstruction` (60_exceptions.md
R302); refusing errs toward unprovable, so each is safe. -/
inductive DecodeError where
  /-- the opcode is 0x00, 0x3E or 0x3F (R97) -/
  | reservedOpcode
  /-- swc, var or sa is not listed for the opcode (R94) -/
  | reservedForm
  /-- the relation is 1010 to 1111 (R95) -/
  | reservedRelation
  /-- a must-be-zero field is not zero (R101) -/
  | mustBeZero
  /-- the subword size does not exist at this XLEN (R105) -/
  | absentSize
  /-- the word is not in the table of the configuration's ENCODING (92_eei_decisions.md D2; log 2) -/
  | notInTable
deriving DecidableEq, Repr

/-! ### Fields (30_encoding.md R84 to R94) -/

/-- Bits 31:26 (R84). -/
def fOpcode (w : IWord) : Nat := (w.extractLsb' 26 6).toNat
/-- The guard, bits 25:23 (R84). -/
def fP (w : IWord) : Pred := (w.extractLsb' 23 3).toFin
/-- Bits 22:18: Rd, or the Rs1 field of formats 5a and 5b (R86 to R93). -/
def fRd (w : IWord) : Reg := (w.extractLsb' 18 5).toFin
/-- Bits 17:13: Rs1, or the Rs2 field of format 5a (R87 to R92). -/
def fRs1 (w : IWord) : Reg := (w.extractLsb' 13 5).toFin
/-- Bits 12:8: Rs2 of formats 3, 4a and 4c (R88, R89, R91). -/
def fRs2 (w : IWord) : Reg := (w.extractLsb' 8 5).toFin
/-- Bits 12:8: imm5 of format 4b (R90). -/
def fImm5 (w : IWord) : BitVec 5 := w.extractLsb' 8 5
/-- Bits 22:0 (R85). -/
def fImm23 (w : IWord) : BitVec 23 := w.extractLsb' 0 23
/-- The used low 16 bits of imm18 (R86, R100). -/
def fImm16 (w : IWord) : BitVec 16 := w.extractLsb' 0 16
/-- Bits 12:0 (R87). -/
def fImm13 (w : IWord) : BitVec 13 := w.extractLsb' 0 13
/-- Bits 12:6 (R88). -/
def fImm7 (w : IWord) : BitVec 7 := w.extractLsb' 6 7
/-- Bits 5:0 (R88). -/
def fImm6 (w : IWord) : BitVec 6 := w.extractLsb' 0 6
/-- Bits 7:0: imm8 of format 4c (R91). -/
def fImm8c (w : IWord) : BitVec 8 := w.extractLsb' 0 8
/-- Bits 17:10: imm8 of format 5b (R93). -/
def fImm8 (w : IWord) : BitVec 8 := w.extractLsb' 10 8
/-- Bits 9:7 (R92, R93). -/
def fPa (w : IWord) : Pred := (w.extractLsb' 7 3).toFin
/-- Bits 6:4 (R92, R93). -/
def fPb (w : IWord) : Pred := (w.extractLsb' 4 3).toFin
/-- Bits 3:0: rel, or imm4 (R92, R93). -/
def fLow4 (w : IWord) : BitVec 4 := w.extractLsb' 0 4
/-- Bits 7:6, the subword size code (R94). -/
def fSwc (w : IWord) : BitVec 2 := w.extractLsb' 6 2
/-- Bits 5:3, the variant (R94). -/
def fVar (w : IWord) : BitVec 3 := w.extractLsb' 3 3
/-- Bits 2:0, the shift amount or its code (R94). -/
def fSa (w : IWord) : BitVec 3 := w.extractLsb' 0 3

/-! ### The decoder (30_encoding.md R103) -/

/-- A form that exists only at XLEN = 64 (R105). -/
def existsFrom64 (x : Xlen) (i : Instr) : Except DecodeError Instr :=
  match x with
  | .x64 => .ok i
  | .x32 => .error .absentSize

/-- Opcode 0x08, cmp: the relation in bits 3:0, in the order of 30_encoding.md R95. -/
def decodeCmp (w : IWord) : Except DecodeError Instr :=
  match (fLow4 w).toNat with
  | 0 => .ok (.cmpEq (fP w) (fRd w) (fRs1 w) (fPa w) (fPb w))
  | 1 => .ok (.cmpNe (fP w) (fRd w) (fRs1 w) (fPa w) (fPb w))
  | 2 => .ok (.cmpLt (fP w) (fRd w) (fRs1 w) (fPa w) (fPb w))
  | 3 => .ok (.cmpLe (fP w) (fRd w) (fRs1 w) (fPa w) (fPb w))
  | 4 => .ok (.cmpGt (fP w) (fRd w) (fRs1 w) (fPa w) (fPb w))
  | 5 => .ok (.cmpGe (fP w) (fRd w) (fRs1 w) (fPa w) (fPb w))
  | 6 => .ok (.cmpLtu (fP w) (fRd w) (fRs1 w) (fPa w) (fPb w))
  | 7 => .ok (.cmpLeu (fP w) (fRd w) (fRs1 w) (fPa w) (fPb w))
  | 8 => .ok (.cmpGtu (fP w) (fRd w) (fRs1 w) (fPa w) (fPb w))
  | 9 => .ok (.cmpGeu (fP w) (fRd w) (fRs1 w) (fPa w) (fPb w))
  | _ => .error .reservedRelation

/-- Opcode 0x09, cmpi: the relation in bits 3:0, in the order of 30_encoding.md R95. -/
def decodeCmpi (w : IWord) : Except DecodeError Instr :=
  match (fLow4 w).toNat with
  | 0 => .ok (.cmpiEq (fP w) (fRd w) (fImm8 w) (fPa w) (fPb w))
  | 1 => .ok (.cmpiNe (fP w) (fRd w) (fImm8 w) (fPa w) (fPb w))
  | 2 => .ok (.cmpiLt (fP w) (fRd w) (fImm8 w) (fPa w) (fPb w))
  | 3 => .ok (.cmpiLe (fP w) (fRd w) (fImm8 w) (fPa w) (fPb w))
  | 4 => .ok (.cmpiGt (fP w) (fRd w) (fImm8 w) (fPa w) (fPb w))
  | 5 => .ok (.cmpiGe (fP w) (fRd w) (fImm8 w) (fPa w) (fPb w))
  | 6 => .ok (.cmpiLtu (fP w) (fRd w) (fImm8 w) (fPa w) (fPb w))
  | 7 => .ok (.cmpiLeu (fP w) (fRd w) (fImm8 w) (fPa w) (fPb w))
  | 8 => .ok (.cmpiGtu (fP w) (fRd w) (fImm8 w) (fPa w) (fPb w))
  | 9 => .ok (.cmpiGeu (fP w) (fRd w) (fImm8 w) (fPa w) (fPb w))
  | _ => .error .reservedRelation

/-- Opcode 0x0D, mix: the values of swc, var and sa that 30_encoding.md R94 lists. -/
def decodeMix (x : Xlen) (w : IWord) : Except DecodeError Instr :=
  match (fSwc w).toNat, (fVar w).toNat, (fSa w).toNat with
  | 0, 0, 0 => .ok (.mix1L (fP w) (fRd w) (fRs1 w) (fRs2 w))
  | 1, 0, 0 => .ok (.mix2L (fP w) (fRd w) (fRs1 w) (fRs2 w))
  | 2, 0, 0 => existsFrom64 x (.mix4L (fP w) (fRd w) (fRs1 w) (fRs2 w))
  | 0, 1, 0 => .ok (.mix1R (fP w) (fRd w) (fRs1 w) (fRs2 w))
  | 1, 1, 0 => .ok (.mix2R (fP w) (fRd w) (fRs1 w) (fRs2 w))
  | 2, 1, 0 => existsFrom64 x (.mix4R (fP w) (fRd w) (fRs1 w) (fRs2 w))
  | _, _, _ => .error .reservedForm

/-- Opcode 0x0E, mux: the values of swc, var and sa that 30_encoding.md R94 lists. -/
def decodeMux (w : IWord) : Except DecodeError Instr :=
  match (fSwc w).toNat, (fVar w).toNat, (fSa w).toNat with
  | 0, 0, 0 => .ok (.muxRev (fP w) (fRd w) (fRs1 w))
  | 0, 1, 0 => .ok (.muxMix (fP w) (fRd w) (fRs1 w))
  | 0, 2, 0 => .ok (.muxShuf (fP w) (fRd w) (fRs1 w))
  | 0, 3, 0 => .ok (.muxAlt (fP w) (fRd w) (fRs1 w))
  | 0, 4, 0 => .ok (.muxBrcst (fP w) (fRd w) (fRs1 w))
  | _, _, _ => .error .reservedForm

/-- Opcode 0x0F, perm: the values of swc, var and sa that 30_encoding.md R94 lists. -/
def decodePerm (w : IWord) : Except DecodeError Instr :=
  match (fSwc w).toNat, (fVar w).toNat, (fSa w).toNat with
  | 1, 0, 0 => .ok (.perm (fP w) (fRd w) (fRs1 w) (fRs2 w))
  | _, _, _ => .error .reservedForm

/-- Opcode 0x2B, padd: the values of swc, var and sa that 30_encoding.md R94 lists. -/
def decodePadd (x : Xlen) (w : IWord) : Except DecodeError Instr :=
  match (fSwc w).toNat, (fVar w).toNat, (fSa w).toNat with
  | 0, 0, 0 => .ok (.padd1 (fP w) (fRd w) (fRs1 w) (fRs2 w))
  | 1, 0, 0 => .ok (.padd2 (fP w) (fRd w) (fRs1 w) (fRs2 w))
  | 2, 0, 0 => .ok (.padd4 (fP w) (fRd w) (fRs1 w) (fRs2 w))
  | 3, 0, 0 => existsFrom64 x (.padd8 (fP w) (fRd w) (fRs1 w) (fRs2 w))
  | 0, 1, 0 => .ok (.padd1U (fP w) (fRd w) (fRs1 w) (fRs2 w))
  | 1, 1, 0 => .ok (.padd2U (fP w) (fRd w) (fRs1 w) (fRs2 w))
  | 2, 1, 0 => .ok (.padd4U (fP w) (fRd w) (fRs1 w) (fRs2 w))
  | 3, 1, 0 => existsFrom64 x (.padd8U (fP w) (fRd w) (fRs1 w) (fRs2 w))
  | 0, 2, 0 => .ok (.padd1S (fP w) (fRd w) (fRs1 w) (fRs2 w))
  | 1, 2, 0 => .ok (.padd2S (fP w) (fRd w) (fRs1 w) (fRs2 w))
  | 2, 2, 0 => .ok (.padd4S (fP w) (fRd w) (fRs1 w) (fRs2 w))
  | 3, 2, 0 => existsFrom64 x (.padd8S (fP w) (fRd w) (fRs1 w) (fRs2 w))
  | _, _, _ => .error .reservedForm

/-- Opcode 0x2C, paddincr: the values of swc, var and sa that 30_encoding.md R94 lists. -/
def decodePaddincr (x : Xlen) (w : IWord) : Except DecodeError Instr :=
  match (fSwc w).toNat, (fVar w).toNat, (fSa w).toNat with
  | 0, 0, 0 => .ok (.paddincr1 (fP w) (fRd w) (fRs1 w) (fRs2 w))
  | 1, 0, 0 => .ok (.paddincr2 (fP w) (fRd w) (fRs1 w) (fRs2 w))
  | 2, 0, 0 => .ok (.paddincr4 (fP w) (fRd w) (fRs1 w) (fRs2 w))
  | 3, 0, 0 => existsFrom64 x (.paddincr8 (fP w) (fRd w) (fRs1 w) (fRs2 w))
  | _, _, _ => .error .reservedForm

/-- Opcode 0x2D, psub: the values of swc, var and sa that 30_encoding.md R94 lists. -/
def decodePsub (x : Xlen) (w : IWord) : Except DecodeError Instr :=
  match (fSwc w).toNat, (fVar w).toNat, (fSa w).toNat with
  | 0, 0, 0 => .ok (.psub1 (fP w) (fRd w) (fRs1 w) (fRs2 w))
  | 1, 0, 0 => .ok (.psub2 (fP w) (fRd w) (fRs1 w) (fRs2 w))
  | 2, 0, 0 => .ok (.psub4 (fP w) (fRd w) (fRs1 w) (fRs2 w))
  | 3, 0, 0 => existsFrom64 x (.psub8 (fP w) (fRd w) (fRs1 w) (fRs2 w))
  | 0, 1, 0 => .ok (.psub1U (fP w) (fRd w) (fRs1 w) (fRs2 w))
  | 1, 1, 0 => .ok (.psub2U (fP w) (fRd w) (fRs1 w) (fRs2 w))
  | 2, 1, 0 => .ok (.psub4U (fP w) (fRd w) (fRs1 w) (fRs2 w))
  | 3, 1, 0 => existsFrom64 x (.psub8U (fP w) (fRd w) (fRs1 w) (fRs2 w))
  | 0, 2, 0 => .ok (.psub1S (fP w) (fRd w) (fRs1 w) (fRs2 w))
  | 1, 2, 0 => .ok (.psub2S (fP w) (fRd w) (fRs1 w) (fRs2 w))
  | 2, 2, 0 => .ok (.psub4S (fP w) (fRd w) (fRs1 w) (fRs2 w))
  | 3, 2, 0 => existsFrom64 x (.psub8S (fP w) (fRd w) (fRs1 w) (fRs2 w))
  | _, _, _ => .error .reservedForm

/-- Opcode 0x2E, psubdecr: the values of swc, var and sa that 30_encoding.md R94 lists. -/
def decodePsubdecr (x : Xlen) (w : IWord) : Except DecodeError Instr :=
  match (fSwc w).toNat, (fVar w).toNat, (fSa w).toNat with
  | 0, 0, 0 => .ok (.psubdecr1 (fP w) (fRd w) (fRs1 w) (fRs2 w))
  | 1, 0, 0 => .ok (.psubdecr2 (fP w) (fRd w) (fRs1 w) (fRs2 w))
  | 2, 0, 0 => .ok (.psubdecr4 (fP w) (fRd w) (fRs1 w) (fRs2 w))
  | 3, 0, 0 => existsFrom64 x (.psubdecr8 (fP w) (fRd w) (fRs1 w) (fRs2 w))
  | _, _, _ => .error .reservedForm

/-- Opcode 0x2F, pavg: the values of swc, var and sa that 30_encoding.md R94 lists. -/
def decodePavg (w : IWord) : Except DecodeError Instr :=
  match (fSwc w).toNat, (fVar w).toNat, (fSa w).toNat with
  | 0, 0, 0 => .ok (.pavg1 (fP w) (fRd w) (fRs1 w) (fRs2 w))
  | 1, 0, 0 => .ok (.pavg2 (fP w) (fRd w) (fRs1 w) (fRs2 w))
  | 0, 1, 0 => .ok (.pavg1Raz (fP w) (fRd w) (fRs1 w) (fRs2 w))
  | 1, 1, 0 => .ok (.pavg2Raz (fP w) (fRd w) (fRs1 w) (fRs2 w))
  | _, _, _ => .error .reservedForm

/-- Opcode 0x30, psubavg: the values of swc, var and sa that 30_encoding.md R94 lists. -/
def decodePsubavg (w : IWord) : Except DecodeError Instr :=
  match (fSwc w).toNat, (fVar w).toNat, (fSa w).toNat with
  | 0, 0, 0 => .ok (.psubavg1 (fP w) (fRd w) (fRs1 w) (fRs2 w))
  | 1, 0, 0 => .ok (.psubavg2 (fP w) (fRd w) (fRs1 w) (fRs2 w))
  | _, _, _ => .error .reservedForm

/-- Opcode 0x31, and: the values of swc, var and sa that 30_encoding.md R94 lists. -/
def decodeAnd (w : IWord) : Except DecodeError Instr :=
  match (fSwc w).toNat, (fVar w).toNat, (fSa w).toNat with
  | 0, 0, 0 => .ok (.andReg (fP w) (fRd w) (fRs1 w) (fRs2 w))
  | _, _, _ => .error .reservedForm

/-- Opcode 0x32, andcm: the values of swc, var and sa that 30_encoding.md R94 lists. -/
def decodeAndcm (w : IWord) : Except DecodeError Instr :=
  match (fSwc w).toNat, (fVar w).toNat, (fSa w).toNat with
  | 0, 0, 0 => .ok (.andcm (fP w) (fRd w) (fRs1 w) (fRs2 w))
  | _, _, _ => .error .reservedForm

/-- Opcode 0x33, or: the values of swc, var and sa that 30_encoding.md R94 lists. -/
def decodeOr (w : IWord) : Except DecodeError Instr :=
  match (fSwc w).toNat, (fVar w).toNat, (fSa w).toNat with
  | 0, 0, 0 => .ok (.orReg (fP w) (fRd w) (fRs1 w) (fRs2 w))
  | _, _, _ => .error .reservedForm

/-- Opcode 0x34, xor: the values of swc, var and sa that 30_encoding.md R94 lists. -/
def decodeXor (w : IWord) : Except DecodeError Instr :=
  match (fSwc w).toNat, (fVar w).toNat, (fSa w).toNat with
  | 0, 0, 0 => .ok (.xorReg (fP w) (fRd w) (fRs1 w) (fRs2 w))
  | _, _, _ => .error .reservedForm

/-- Opcode 0x35, not: the values of swc, var and sa that 30_encoding.md R94 lists. -/
def decodeNot (w : IWord) : Except DecodeError Instr :=
  match (fSwc w).toNat, (fVar w).toNat, (fSa w).toNat with
  | 0, 0, 0 => .ok (.notReg (fP w) (fRd w) (fRs1 w))
  | _, _, _ => .error .reservedForm

/-- Opcode 0x36, pcmp: the values of swc, var and sa that 30_encoding.md R94 lists. -/
def decodePcmp (x : Xlen) (w : IWord) : Except DecodeError Instr :=
  match (fSwc w).toNat, (fVar w).toNat, (fSa w).toNat with
  | 0, 0, 0 => .ok (.pcmp1Eq (fP w) (fRd w) (fRs1 w) (fRs2 w))
  | 1, 0, 0 => .ok (.pcmp2Eq (fP w) (fRd w) (fRs1 w) (fRs2 w))
  | 2, 0, 0 => .ok (.pcmp4Eq (fP w) (fRd w) (fRs1 w) (fRs2 w))
  | 3, 0, 0 => existsFrom64 x (.pcmp8Eq (fP w) (fRd w) (fRs1 w) (fRs2 w))
  | 0, 1, 0 => .ok (.pcmp1Gt (fP w) (fRd w) (fRs1 w) (fRs2 w))
  | 1, 1, 0 => .ok (.pcmp2Gt (fP w) (fRd w) (fRs1 w) (fRs2 w))
  | 2, 1, 0 => .ok (.pcmp4Gt (fP w) (fRd w) (fRs1 w) (fRs2 w))
  | 3, 1, 0 => existsFrom64 x (.pcmp8Gt (fP w) (fRd w) (fRs1 w) (fRs2 w))
  | _, _, _ => .error .reservedForm

/-- Opcode 0x37, pmax: the values of swc, var and sa that 30_encoding.md R94 lists. -/
def decodePmax (w : IWord) : Except DecodeError Instr :=
  match (fSwc w).toNat, (fVar w).toNat, (fSa w).toNat with
  | 0, 0, 0 => .ok (.pmax1 (fP w) (fRd w) (fRs1 w) (fRs2 w))
  | 1, 0, 0 => .ok (.pmax2 (fP w) (fRd w) (fRs1 w) (fRs2 w))
  | _, _, _ => .error .reservedForm

/-- Opcode 0x38, pmin: the values of swc, var and sa that 30_encoding.md R94 lists. -/
def decodePmin (w : IWord) : Except DecodeError Instr :=
  match (fSwc w).toNat, (fVar w).toNat, (fSa w).toNat with
  | 0, 0, 0 => .ok (.pmin1 (fP w) (fRd w) (fRs1 w) (fRs2 w))
  | 1, 0, 0 => .ok (.pmin2 (fP w) (fRd w) (fRs1 w) (fRs2 w))
  | _, _, _ => .error .reservedForm

/-- Opcode 0x39, pshiftadd: the values of swc, var and sa that 30_encoding.md R94 lists. -/
def decodePshiftadd (w : IWord) : Except DecodeError Instr :=
  match (fSwc w).toNat, (fVar w).toNat, (fSa w).toNat with
  | 1, 0, 1 => .ok (.pshiftadd1L (fP w) (fRd w) (fRs1 w) (fRs2 w))
  | 1, 0, 2 => .ok (.pshiftadd2L (fP w) (fRd w) (fRs1 w) (fRs2 w))
  | 1, 0, 3 => .ok (.pshiftadd3L (fP w) (fRd w) (fRs1 w) (fRs2 w))
  | 1, 1, 1 => .ok (.pshiftadd1R (fP w) (fRd w) (fRs1 w) (fRs2 w))
  | 1, 1, 2 => .ok (.pshiftadd2R (fP w) (fRd w) (fRs1 w) (fRs2 w))
  | 1, 1, 3 => .ok (.pshiftadd3R (fP w) (fRd w) (fRs1 w) (fRs2 w))
  | _, _, _ => .error .reservedForm

/-- Opcode 0x3A, pmul: the values of swc, var and sa that 30_encoding.md R94 lists. -/
def decodePmul (w : IWord) : Except DecodeError Instr :=
  match (fSwc w).toNat, (fVar w).toNat, (fSa w).toNat with
  | 1, 0, 0 => .ok (.pmulOdd (fP w) (fRd w) (fRs1 w) (fRs2 w))
  | 1, 1, 0 => .ok (.pmulEven (fP w) (fRd w) (fRs1 w) (fRs2 w))
  | _, _, _ => .error .reservedForm

/-- Opcode 0x3B, pmulshr: the values of swc, var and sa that 30_encoding.md R94 lists. -/
def decodePmulshr (w : IWord) : Except DecodeError Instr :=
  match (fSwc w).toNat, (fVar w).toNat, (fSa w).toNat with
  | 1, 0, 0 => .ok (.pmulshr0 (fP w) (fRd w) (fRs1 w) (fRs2 w))
  | 1, 0, 1 => .ok (.pmulshr8 (fP w) (fRd w) (fRs1 w) (fRs2 w))
  | 1, 0, 2 => .ok (.pmulshr15 (fP w) (fRd w) (fRs1 w) (fRs2 w))
  | 1, 0, 3 => .ok (.pmulshr16 (fP w) (fRd w) (fRs1 w) (fRs2 w))
  | 1, 1, 0 => .ok (.pmulshr0A (fP w) (fRd w) (fRs1 w) (fRs2 w))
  | 1, 1, 1 => .ok (.pmulshr8A (fP w) (fRd w) (fRs1 w) (fRs2 w))
  | 1, 1, 2 => .ok (.pmulshr15A (fP w) (fRd w) (fRs1 w) (fRs2 w))
  | 1, 1, 3 => .ok (.pmulshr16A (fP w) (fRd w) (fRs1 w) (fRs2 w))
  | _, _, _ => .error .reservedForm

/-- Opcode 0x3C, pshift: the values of swc, var and sa that 30_encoding.md R94 lists. -/
def decodePshift (x : Xlen) (w : IWord) : Except DecodeError Instr :=
  match (fSwc w).toNat, (fVar w).toNat, (fSa w).toNat with
  | 1, 0, 0 => .ok (.pshift2L (fP w) (fRd w) (fRs1 w) (fRs2 w))
  | 2, 0, 0 => .ok (.pshift4L (fP w) (fRd w) (fRs1 w) (fRs2 w))
  | 3, 0, 0 => existsFrom64 x (.pshift8L (fP w) (fRd w) (fRs1 w) (fRs2 w))
  | 1, 1, 0 => .ok (.pshift2R (fP w) (fRd w) (fRs1 w) (fRs2 w))
  | 2, 1, 0 => .ok (.pshift4R (fP w) (fRd w) (fRs1 w) (fRs2 w))
  | 3, 1, 0 => existsFrom64 x (.pshift8R (fP w) (fRd w) (fRs1 w) (fRs2 w))
  | 1, 2, 0 => .ok (.pshift2Ra (fP w) (fRd w) (fRs1 w) (fRs2 w))
  | 2, 2, 0 => .ok (.pshift4Ra (fP w) (fRd w) (fRs1 w) (fRs2 w))
  | 3, 2, 0 => existsFrom64 x (.pshift8Ra (fP w) (fRd w) (fRs1 w) (fRs2 w))
  | _, _, _ => .error .reservedForm

/-- Opcode 0x3D, pshifti: the values of swc, var and sa that 30_encoding.md R94 lists. -/
def decodePshifti (x : Xlen) (w : IWord) : Except DecodeError Instr :=
  match (fSwc w).toNat, (fVar w).toNat, (fSa w).toNat with
  | 1, 0, 0 => .ok (.pshifti2L (fP w) (fRd w) (fRs1 w) (fImm5 w))
  | 2, 0, 0 => .ok (.pshifti4L (fP w) (fRd w) (fRs1 w) (fImm5 w))
  | 3, 0, 0 => existsFrom64 x (.pshifti8L (fP w) (fRd w) (fRs1 w) (fImm5 w))
  | 1, 1, 0 => .ok (.pshifti2R (fP w) (fRd w) (fRs1 w) (fImm5 w))
  | 2, 1, 0 => .ok (.pshifti4R (fP w) (fRd w) (fRs1 w) (fImm5 w))
  | 3, 1, 0 => existsFrom64 x (.pshifti8R (fP w) (fRd w) (fRs1 w) (fImm5 w))
  | 1, 2, 0 => .ok (.pshifti2Ra (fP w) (fRd w) (fRs1 w) (fImm5 w))
  | 2, 2, 0 => .ok (.pshifti4Ra (fP w) (fRd w) (fRs1 w) (fImm5 w))
  | 3, 2, 0 => existsFrom64 x (.pshifti8Ra (fP w) (fRd w) (fRs1 w) (fImm5 w))
  | _, _, _ => .error .reservedForm

/-- The reference decoder (30_encoding.md R103): the opcode selects the format and the form; a reserved opcode, form,
relation or size and a nonzero must-be-zero field are rejected by name (R99, R101, R105). Ignored fields (R100) are
not looked at. -/
def decode (x : Xlen) (w : IWord) : Except DecodeError Instr :=
  match fOpcode w with
  | 0x01 => .ok (.jmp (fP w) (fImm23 w))
  | 0x02 => .ok (.jmpLink (fP w) (fImm23 w))
  | 0x03 => .ok (.trap (fP w))
  | 0x04 => if w.extractLsb' 0 18 = 0 then .ok (.jmpReg (fP w) (fRd w)) else .error .mustBeZero
  | 0x05 => if w.extractLsb' 0 18 = 0 then .ok (.jmpRegLink (fP w) (fRd w)) else .error .mustBeZero
  | 0x06 => .ok (.loadiHi (fP w) (fRd w) (fImm16 w))
  | 0x07 => .ok (.loadiLo (fP w) (fRd w) (fImm16 w))
  | 0x08 => if w.extractLsb' 10 3 = 0 then decodeCmp w else .error .mustBeZero
  | 0x09 => decodeCmpi w
  | 0x0A => .ok (.testbit (fP w) (fRd w) (fImm8 w) (fPa w) (fPb w))
  | 0x0B => if fRd w = 0 ∧ fPa w = 0 ∧ fPb w = 0 then .ok (.changepr (fP w) (fLow4 w)) else .error .mustBeZero
  | 0x0C => if fRd w = 0 ∧ fPa w = 0 ∧ fPb w = 0 then .ok (.changeprLd (fP w) (fLow4 w) (fImm8 w)) else .error .mustBeZero
  | 0x0D => decodeMix x w
  | 0x0E => if fImm5 w = 0 then decodeMux w else .error .mustBeZero
  | 0x0F => decodePerm w
  | 0x10 => .ok (.load1 (fP w) (fRd w) (fRs1 w) (fImm13 w))
  | 0x11 => .ok (.load2 (fP w) (fRd w) (fRs1 w) (fImm13 w))
  | 0x12 => .ok (.load4 (fP w) (fRd w) (fRs1 w) (fImm13 w))
  | 0x13 => existsFrom64 x (.load8 (fP w) (fRd w) (fRs1 w) (fImm13 w))
  | 0x14 => .ok (.load1Update (fP w) (fRd w) (fRs1 w) (fImm13 w))
  | 0x15 => .ok (.load2Update (fP w) (fRd w) (fRs1 w) (fImm13 w))
  | 0x16 => .ok (.load4Update (fP w) (fRd w) (fRs1 w) (fImm13 w))
  | 0x17 => existsFrom64 x (.load8Update (fP w) (fRd w) (fRs1 w) (fImm13 w))
  | 0x18 => .ok (.store1 (fP w) (fRd w) (fRs1 w) (fImm13 w))
  | 0x19 => .ok (.store2 (fP w) (fRd w) (fRs1 w) (fImm13 w))
  | 0x1A => .ok (.store4 (fP w) (fRd w) (fRs1 w) (fImm13 w))
  | 0x1B => existsFrom64 x (.store8 (fP w) (fRd w) (fRs1 w) (fImm13 w))
  | 0x1C => .ok (.store1Update (fP w) (fRd w) (fRs1 w) (fImm13 w))
  | 0x1D => .ok (.store2Update (fP w) (fRd w) (fRs1 w) (fImm13 w))
  | 0x1E => .ok (.store4Update (fP w) (fRd w) (fRs1 w) (fImm13 w))
  | 0x1F => existsFrom64 x (.store8Update (fP w) (fRd w) (fRs1 w) (fImm13 w))
  | 0x20 => .ok (.addi (fP w) (fRd w) (fRs1 w) (fImm13 w))
  | 0x21 => .ok (.subi (fP w) (fRd w) (fRs1 w) (fImm13 w))
  | 0x22 => .ok (.andi (fP w) (fRd w) (fRs1 w) (fImm13 w))
  | 0x23 => .ok (.ori (fP w) (fRd w) (fRs1 w) (fImm13 w))
  | 0x24 => .ok (.xori (fP w) (fRd w) (fRs1 w) (fImm13 w))
  | 0x25 => .ok (.slli (fP w) (fRd w) (fRs1 w) (fImm13 w))
  | 0x26 => .ok (.srli (fP w) (fRd w) (fRs1 w) (fImm13 w))
  | 0x27 => .ok (.srai (fP w) (fRd w) (fRs1 w) (fImm13 w))
  | 0x28 => .ok (.shrp (fP w) (fRd w) (fRs1 w) (fRs2 w) (fImm8c w))
  | 0x29 => .ok (.extract (fP w) (fRd w) (fRs1 w) (fImm7 w) (fImm6 w))
  | 0x2A => .ok (.deposit (fP w) (fRd w) (fRs1 w) (fImm7 w) (fImm6 w))
  | 0x2B => decodePadd x w
  | 0x2C => decodePaddincr x w
  | 0x2D => decodePsub x w
  | 0x2E => decodePsubdecr x w
  | 0x2F => decodePavg w
  | 0x30 => decodePsubavg w
  | 0x31 => decodeAnd w
  | 0x32 => decodeAndcm w
  | 0x33 => decodeOr w
  | 0x34 => decodeXor w
  | 0x35 => decodeNot w
  | 0x36 => decodePcmp x w
  | 0x37 => decodePmax w
  | 0x38 => decodePmin w
  | 0x39 => decodePshiftadd w
  | 0x3A => decodePmul w
  | 0x3B => decodePmulshr w
  | 0x3C => decodePshift x w
  | 0x3D => decodePshifti x w
  | _ => .error .reservedOpcode

/-! ### The encoder: the layouts of 30_encoding.md R85 to R93, with zeros in ignored fields (R103) -/

/-- A field placed with its low bit at bit `lo` of the word. -/
def place (lo : Nat) {n : Nat} (v : BitVec n) : IWord := v.setWidth 32 <<< lo
/-- A register field. -/
def placeReg (lo : Nat) (r : Reg) : IWord := place lo (BitVec.ofFin (w := 5) r)
/-- A predicate field. -/
def placePred (lo : Nat) (p : Pred) : IWord := place lo (BitVec.ofFin (w := 3) p)
/-- The opcode and the guard, in every format (R84). -/
def header (op : BitVec 6) (p : Pred) : IWord := place 26 op ||| placePred 23 p

/-- Format 0 (R85). -/
def fmt0 (op : BitVec 6) (p : Pred) (imm23 : BitVec 23) : IWord :=
  header op p ||| place 0 imm23
/-- Format 1 (R86). -/
def fmt1 (op : BitVec 6) (p : Pred) (rd : Reg) (imm18 : BitVec 18) : IWord :=
  header op p ||| placeReg 18 rd ||| place 0 imm18
/-- Format 2 (R87). -/
def fmt2 (op : BitVec 6) (p : Pred) (rd rs1 : Reg) (imm13 : BitVec 13) : IWord :=
  header op p ||| placeReg 18 rd ||| placeReg 13 rs1 ||| place 0 imm13
/-- Format 3, immediate shape (R88). -/
def fmt3 (op : BitVec 6) (p : Pred) (rd rs1 : Reg) (imm7 : BitVec 7) (imm6 : BitVec 6) : IWord :=
  header op p ||| placeReg 18 rd ||| placeReg 13 rs1 ||| place 6 imm7 ||| place 0 imm6
/-- Format 4a, and the register shape of format 3 (R88, R89). -/
def fmt4a (op : BitVec 6) (p : Pred) (rd rs1 rs2 : Reg) (swc : BitVec 2) (var sa : BitVec 3) : IWord :=
  header op p ||| placeReg 18 rd ||| placeReg 13 rs1 ||| placeReg 8 rs2
    ||| place 6 swc ||| place 3 var ||| place 0 sa
/-- Format 4b (R90). -/
def fmt4b (op : BitVec 6) (p : Pred) (rd rs1 : Reg) (imm5 : BitVec 5) (swc : BitVec 2) (var sa : BitVec 3) : IWord :=
  header op p ||| placeReg 18 rd ||| placeReg 13 rs1 ||| place 8 imm5
    ||| place 6 swc ||| place 3 var ||| place 0 sa
/-- Format 4c (R91). -/
def fmt4c (op : BitVec 6) (p : Pred) (rd rs1 rs2 : Reg) (imm8 : BitVec 8) : IWord :=
  header op p ||| placeReg 18 rd ||| placeReg 13 rs1 ||| placeReg 8 rs2 ||| place 0 imm8
/-- Format 5a, bits 12:10 zero (R92). -/
def fmt5a (op : BitVec 6) (p : Pred) (rs1 rs2 : Reg) (pa pb : Pred) (rel : BitVec 4) : IWord :=
  header op p ||| placeReg 18 rs1 ||| placeReg 13 rs2 ||| placePred 7 pa ||| placePred 4 pb ||| place 0 rel
/-- Format 5b (R93). -/
def fmt5b (op : BitVec 6) (p : Pred) (rs1 : Reg) (imm8 : BitVec 8) (pa pb : Pred) (imm4 : BitVec 4) : IWord :=
  header op p ||| placeReg 18 rs1 ||| place 10 imm8 ||| placePred 7 pa ||| placePred 4 pb ||| place 0 imm4

/-- The word of an instruction (30_encoding.md R94, R95, R97, R103). -/
def encode : Instr → IWord
  | .jmp p imm23 => fmt0 0x01 p imm23
  | .jmpLink p imm23 => fmt0 0x02 p imm23
  | .trap p => fmt0 0x03 p 0
  | .jmpReg p rd => fmt1 0x04 p rd 0
  | .jmpRegLink p rd => fmt1 0x05 p rd 0
  | .loadiHi p rd imm16 => fmt1 0x06 p rd (imm16.setWidth 18)
  | .loadiLo p rd imm16 => fmt1 0x07 p rd (imm16.setWidth 18)
  | .cmpEq p rs1 rs2 pa pb => fmt5a 0x08 p rs1 rs2 pa pb 0x0
  | .cmpNe p rs1 rs2 pa pb => fmt5a 0x08 p rs1 rs2 pa pb 0x1
  | .cmpLt p rs1 rs2 pa pb => fmt5a 0x08 p rs1 rs2 pa pb 0x2
  | .cmpLe p rs1 rs2 pa pb => fmt5a 0x08 p rs1 rs2 pa pb 0x3
  | .cmpGt p rs1 rs2 pa pb => fmt5a 0x08 p rs1 rs2 pa pb 0x4
  | .cmpGe p rs1 rs2 pa pb => fmt5a 0x08 p rs1 rs2 pa pb 0x5
  | .cmpLtu p rs1 rs2 pa pb => fmt5a 0x08 p rs1 rs2 pa pb 0x6
  | .cmpLeu p rs1 rs2 pa pb => fmt5a 0x08 p rs1 rs2 pa pb 0x7
  | .cmpGtu p rs1 rs2 pa pb => fmt5a 0x08 p rs1 rs2 pa pb 0x8
  | .cmpGeu p rs1 rs2 pa pb => fmt5a 0x08 p rs1 rs2 pa pb 0x9
  | .cmpiEq p rs1 imm8 pa pb => fmt5b 0x09 p rs1 imm8 pa pb 0x0
  | .cmpiNe p rs1 imm8 pa pb => fmt5b 0x09 p rs1 imm8 pa pb 0x1
  | .cmpiLt p rs1 imm8 pa pb => fmt5b 0x09 p rs1 imm8 pa pb 0x2
  | .cmpiLe p rs1 imm8 pa pb => fmt5b 0x09 p rs1 imm8 pa pb 0x3
  | .cmpiGt p rs1 imm8 pa pb => fmt5b 0x09 p rs1 imm8 pa pb 0x4
  | .cmpiGe p rs1 imm8 pa pb => fmt5b 0x09 p rs1 imm8 pa pb 0x5
  | .cmpiLtu p rs1 imm8 pa pb => fmt5b 0x09 p rs1 imm8 pa pb 0x6
  | .cmpiLeu p rs1 imm8 pa pb => fmt5b 0x09 p rs1 imm8 pa pb 0x7
  | .cmpiGtu p rs1 imm8 pa pb => fmt5b 0x09 p rs1 imm8 pa pb 0x8
  | .cmpiGeu p rs1 imm8 pa pb => fmt5b 0x09 p rs1 imm8 pa pb 0x9
  | .testbit p rd imm8 pa pb => fmt5b 0x0A p rd imm8 pa pb 0
  | .changepr p imm4 => fmt5b 0x0B p 0 0 0 0 imm4
  | .changeprLd p imm4 imm8 => fmt5b 0x0C p 0 imm8 0 0 imm4
  | .mix1L p rd rs1 rs2 => fmt4a 0x0D p rd rs1 rs2 0 0 0
  | .mix2L p rd rs1 rs2 => fmt4a 0x0D p rd rs1 rs2 1 0 0
  | .mix4L p rd rs1 rs2 => fmt4a 0x0D p rd rs1 rs2 2 0 0
  | .mix1R p rd rs1 rs2 => fmt4a 0x0D p rd rs1 rs2 0 1 0
  | .mix2R p rd rs1 rs2 => fmt4a 0x0D p rd rs1 rs2 1 1 0
  | .mix4R p rd rs1 rs2 => fmt4a 0x0D p rd rs1 rs2 2 1 0
  | .muxRev p rd rs1 => fmt4b 0x0E p rd rs1 0 0 0 0
  | .muxMix p rd rs1 => fmt4b 0x0E p rd rs1 0 0 1 0
  | .muxShuf p rd rs1 => fmt4b 0x0E p rd rs1 0 0 2 0
  | .muxAlt p rd rs1 => fmt4b 0x0E p rd rs1 0 0 3 0
  | .muxBrcst p rd rs1 => fmt4b 0x0E p rd rs1 0 0 4 0
  | .perm p rd rs1 rs2 => fmt4a 0x0F p rd rs1 rs2 1 0 0
  | .load1 p rd rs1 imm13 => fmt2 0x10 p rd rs1 imm13
  | .load2 p rd rs1 imm13 => fmt2 0x11 p rd rs1 imm13
  | .load4 p rd rs1 imm13 => fmt2 0x12 p rd rs1 imm13
  | .load8 p rd rs1 imm13 => fmt2 0x13 p rd rs1 imm13
  | .load1Update p rd rs1 imm13 => fmt2 0x14 p rd rs1 imm13
  | .load2Update p rd rs1 imm13 => fmt2 0x15 p rd rs1 imm13
  | .load4Update p rd rs1 imm13 => fmt2 0x16 p rd rs1 imm13
  | .load8Update p rd rs1 imm13 => fmt2 0x17 p rd rs1 imm13
  | .store1 p rd rs1 imm13 => fmt2 0x18 p rd rs1 imm13
  | .store2 p rd rs1 imm13 => fmt2 0x19 p rd rs1 imm13
  | .store4 p rd rs1 imm13 => fmt2 0x1A p rd rs1 imm13
  | .store8 p rd rs1 imm13 => fmt2 0x1B p rd rs1 imm13
  | .store1Update p rd rs1 imm13 => fmt2 0x1C p rd rs1 imm13
  | .store2Update p rd rs1 imm13 => fmt2 0x1D p rd rs1 imm13
  | .store4Update p rd rs1 imm13 => fmt2 0x1E p rd rs1 imm13
  | .store8Update p rd rs1 imm13 => fmt2 0x1F p rd rs1 imm13
  | .addi p rd rs1 imm13 => fmt2 0x20 p rd rs1 imm13
  | .subi p rd rs1 imm13 => fmt2 0x21 p rd rs1 imm13
  | .andi p rd rs1 imm13 => fmt2 0x22 p rd rs1 imm13
  | .ori p rd rs1 imm13 => fmt2 0x23 p rd rs1 imm13
  | .xori p rd rs1 imm13 => fmt2 0x24 p rd rs1 imm13
  | .slli p rd rs1 imm13 => fmt2 0x25 p rd rs1 imm13
  | .srli p rd rs1 imm13 => fmt2 0x26 p rd rs1 imm13
  | .srai p rd rs1 imm13 => fmt2 0x27 p rd rs1 imm13
  | .shrp p rd rs1 rs2 imm8 => fmt4c 0x28 p rd rs1 rs2 imm8
  | .extract p rd rs1 imm7 imm6 => fmt3 0x29 p rd rs1 imm7 imm6
  | .deposit p rd rs1 imm7 imm6 => fmt3 0x2A p rd rs1 imm7 imm6
  | .padd1 p rd rs1 rs2 => fmt4a 0x2B p rd rs1 rs2 0 0 0
  | .padd2 p rd rs1 rs2 => fmt4a 0x2B p rd rs1 rs2 1 0 0
  | .padd4 p rd rs1 rs2 => fmt4a 0x2B p rd rs1 rs2 2 0 0
  | .padd8 p rd rs1 rs2 => fmt4a 0x2B p rd rs1 rs2 3 0 0
  | .padd1U p rd rs1 rs2 => fmt4a 0x2B p rd rs1 rs2 0 1 0
  | .padd2U p rd rs1 rs2 => fmt4a 0x2B p rd rs1 rs2 1 1 0
  | .padd4U p rd rs1 rs2 => fmt4a 0x2B p rd rs1 rs2 2 1 0
  | .padd8U p rd rs1 rs2 => fmt4a 0x2B p rd rs1 rs2 3 1 0
  | .padd1S p rd rs1 rs2 => fmt4a 0x2B p rd rs1 rs2 0 2 0
  | .padd2S p rd rs1 rs2 => fmt4a 0x2B p rd rs1 rs2 1 2 0
  | .padd4S p rd rs1 rs2 => fmt4a 0x2B p rd rs1 rs2 2 2 0
  | .padd8S p rd rs1 rs2 => fmt4a 0x2B p rd rs1 rs2 3 2 0
  | .paddincr1 p rd rs1 rs2 => fmt4a 0x2C p rd rs1 rs2 0 0 0
  | .paddincr2 p rd rs1 rs2 => fmt4a 0x2C p rd rs1 rs2 1 0 0
  | .paddincr4 p rd rs1 rs2 => fmt4a 0x2C p rd rs1 rs2 2 0 0
  | .paddincr8 p rd rs1 rs2 => fmt4a 0x2C p rd rs1 rs2 3 0 0
  | .psub1 p rd rs1 rs2 => fmt4a 0x2D p rd rs1 rs2 0 0 0
  | .psub2 p rd rs1 rs2 => fmt4a 0x2D p rd rs1 rs2 1 0 0
  | .psub4 p rd rs1 rs2 => fmt4a 0x2D p rd rs1 rs2 2 0 0
  | .psub8 p rd rs1 rs2 => fmt4a 0x2D p rd rs1 rs2 3 0 0
  | .psub1U p rd rs1 rs2 => fmt4a 0x2D p rd rs1 rs2 0 1 0
  | .psub2U p rd rs1 rs2 => fmt4a 0x2D p rd rs1 rs2 1 1 0
  | .psub4U p rd rs1 rs2 => fmt4a 0x2D p rd rs1 rs2 2 1 0
  | .psub8U p rd rs1 rs2 => fmt4a 0x2D p rd rs1 rs2 3 1 0
  | .psub1S p rd rs1 rs2 => fmt4a 0x2D p rd rs1 rs2 0 2 0
  | .psub2S p rd rs1 rs2 => fmt4a 0x2D p rd rs1 rs2 1 2 0
  | .psub4S p rd rs1 rs2 => fmt4a 0x2D p rd rs1 rs2 2 2 0
  | .psub8S p rd rs1 rs2 => fmt4a 0x2D p rd rs1 rs2 3 2 0
  | .psubdecr1 p rd rs1 rs2 => fmt4a 0x2E p rd rs1 rs2 0 0 0
  | .psubdecr2 p rd rs1 rs2 => fmt4a 0x2E p rd rs1 rs2 1 0 0
  | .psubdecr4 p rd rs1 rs2 => fmt4a 0x2E p rd rs1 rs2 2 0 0
  | .psubdecr8 p rd rs1 rs2 => fmt4a 0x2E p rd rs1 rs2 3 0 0
  | .pavg1 p rd rs1 rs2 => fmt4a 0x2F p rd rs1 rs2 0 0 0
  | .pavg2 p rd rs1 rs2 => fmt4a 0x2F p rd rs1 rs2 1 0 0
  | .pavg1Raz p rd rs1 rs2 => fmt4a 0x2F p rd rs1 rs2 0 1 0
  | .pavg2Raz p rd rs1 rs2 => fmt4a 0x2F p rd rs1 rs2 1 1 0
  | .psubavg1 p rd rs1 rs2 => fmt4a 0x30 p rd rs1 rs2 0 0 0
  | .psubavg2 p rd rs1 rs2 => fmt4a 0x30 p rd rs1 rs2 1 0 0
  | .andReg p rd rs1 rs2 => fmt4a 0x31 p rd rs1 rs2 0 0 0
  | .andcm p rd rs1 rs2 => fmt4a 0x32 p rd rs1 rs2 0 0 0
  | .orReg p rd rs1 rs2 => fmt4a 0x33 p rd rs1 rs2 0 0 0
  | .xorReg p rd rs1 rs2 => fmt4a 0x34 p rd rs1 rs2 0 0 0
  | .notReg p rd rs1 => fmt4a 0x35 p rd rs1 0 0 0 0
  | .pcmp1Eq p rd rs1 rs2 => fmt4a 0x36 p rd rs1 rs2 0 0 0
  | .pcmp2Eq p rd rs1 rs2 => fmt4a 0x36 p rd rs1 rs2 1 0 0
  | .pcmp4Eq p rd rs1 rs2 => fmt4a 0x36 p rd rs1 rs2 2 0 0
  | .pcmp8Eq p rd rs1 rs2 => fmt4a 0x36 p rd rs1 rs2 3 0 0
  | .pcmp1Gt p rd rs1 rs2 => fmt4a 0x36 p rd rs1 rs2 0 1 0
  | .pcmp2Gt p rd rs1 rs2 => fmt4a 0x36 p rd rs1 rs2 1 1 0
  | .pcmp4Gt p rd rs1 rs2 => fmt4a 0x36 p rd rs1 rs2 2 1 0
  | .pcmp8Gt p rd rs1 rs2 => fmt4a 0x36 p rd rs1 rs2 3 1 0
  | .pmax1 p rd rs1 rs2 => fmt4a 0x37 p rd rs1 rs2 0 0 0
  | .pmax2 p rd rs1 rs2 => fmt4a 0x37 p rd rs1 rs2 1 0 0
  | .pmin1 p rd rs1 rs2 => fmt4a 0x38 p rd rs1 rs2 0 0 0
  | .pmin2 p rd rs1 rs2 => fmt4a 0x38 p rd rs1 rs2 1 0 0
  | .pshiftadd1L p rd rs1 rs2 => fmt4a 0x39 p rd rs1 rs2 1 0 1
  | .pshiftadd2L p rd rs1 rs2 => fmt4a 0x39 p rd rs1 rs2 1 0 2
  | .pshiftadd3L p rd rs1 rs2 => fmt4a 0x39 p rd rs1 rs2 1 0 3
  | .pshiftadd1R p rd rs1 rs2 => fmt4a 0x39 p rd rs1 rs2 1 1 1
  | .pshiftadd2R p rd rs1 rs2 => fmt4a 0x39 p rd rs1 rs2 1 1 2
  | .pshiftadd3R p rd rs1 rs2 => fmt4a 0x39 p rd rs1 rs2 1 1 3
  | .pmulOdd p rd rs1 rs2 => fmt4a 0x3A p rd rs1 rs2 1 0 0
  | .pmulEven p rd rs1 rs2 => fmt4a 0x3A p rd rs1 rs2 1 1 0
  | .pmulshr0 p rd rs1 rs2 => fmt4a 0x3B p rd rs1 rs2 1 0 0
  | .pmulshr8 p rd rs1 rs2 => fmt4a 0x3B p rd rs1 rs2 1 0 1
  | .pmulshr15 p rd rs1 rs2 => fmt4a 0x3B p rd rs1 rs2 1 0 2
  | .pmulshr16 p rd rs1 rs2 => fmt4a 0x3B p rd rs1 rs2 1 0 3
  | .pmulshr0A p rd rs1 rs2 => fmt4a 0x3B p rd rs1 rs2 1 1 0
  | .pmulshr8A p rd rs1 rs2 => fmt4a 0x3B p rd rs1 rs2 1 1 1
  | .pmulshr15A p rd rs1 rs2 => fmt4a 0x3B p rd rs1 rs2 1 1 2
  | .pmulshr16A p rd rs1 rs2 => fmt4a 0x3B p rd rs1 rs2 1 1 3
  | .pshift2L p rd rs1 rs2 => fmt4a 0x3C p rd rs1 rs2 1 0 0
  | .pshift4L p rd rs1 rs2 => fmt4a 0x3C p rd rs1 rs2 2 0 0
  | .pshift8L p rd rs1 rs2 => fmt4a 0x3C p rd rs1 rs2 3 0 0
  | .pshift2R p rd rs1 rs2 => fmt4a 0x3C p rd rs1 rs2 1 1 0
  | .pshift4R p rd rs1 rs2 => fmt4a 0x3C p rd rs1 rs2 2 1 0
  | .pshift8R p rd rs1 rs2 => fmt4a 0x3C p rd rs1 rs2 3 1 0
  | .pshift2Ra p rd rs1 rs2 => fmt4a 0x3C p rd rs1 rs2 1 2 0
  | .pshift4Ra p rd rs1 rs2 => fmt4a 0x3C p rd rs1 rs2 2 2 0
  | .pshift8Ra p rd rs1 rs2 => fmt4a 0x3C p rd rs1 rs2 3 2 0
  | .pshifti2L p rd rs1 imm5 => fmt4b 0x3D p rd rs1 imm5 1 0 0
  | .pshifti4L p rd rs1 imm5 => fmt4b 0x3D p rd rs1 imm5 2 0 0
  | .pshifti8L p rd rs1 imm5 => fmt4b 0x3D p rd rs1 imm5 3 0 0
  | .pshifti2R p rd rs1 imm5 => fmt4b 0x3D p rd rs1 imm5 1 1 0
  | .pshifti4R p rd rs1 imm5 => fmt4b 0x3D p rd rs1 imm5 2 1 0
  | .pshifti8R p rd rs1 imm5 => fmt4b 0x3D p rd rs1 imm5 3 1 0
  | .pshifti2Ra p rd rs1 imm5 => fmt4b 0x3D p rd rs1 imm5 1 2 0
  | .pshifti4Ra p rd rs1 imm5 => fmt4b 0x3D p rd rs1 imm5 2 2 0
  | .pshifti8Ra p rd rs1 imm5 => fmt4b 0x3D p rd rs1 imm5 3 2 0

/-- The bits of a word that PLX10 calls ignored (30_encoding.md R100): imm23 of trap, the high two bits of imm18 of
loadi, imm4 of testbit, imm8 of changepr, Rs2 of not. -/
def ignoredMask (w : IWord) : IWord :=
  match fOpcode w with
  | 0x03 => 0x007FFFFF#32
  | 0x06 => 0x00030000#32
  | 0x07 => 0x00030000#32
  | 0x0A => 0x0000000F#32
  | 0x0B => 0x0003FC00#32
  | 0x35 => 0x00001F00#32
  | _ => 0#32

/-! ### Words and bytes (20_memory.md R52 to R54, R62) -/

/-- The number that a list of bytes spells, the first byte most significant. -/
def bytesToNatBig : List Byte → Nat
  | [] => 0
  | b :: bs => b.toNat * 256 ^ bs.length + bytesToNatBig bs

/-- The number at the bytes of an access, lowest address first (20_memory.md R52). -/
def bytesToNat (o : ByteOrder) (bs : List Byte) : Nat :=
  match o with
  | .big => bytesToNatBig bs
  | .little => bytesToNatBig bs.reverse

/-- The low n bytes of a value, the least significant first. -/
def lowBytes {m : Nat} (v : BitVec m) : Nat → List Byte
  | 0 => []
  | n + 1 => lowBytes v n ++ [v.extractLsb' (8 * n) 8]

/-- The bytes that an n-byte access stores for a value, lowest address first (20_memory.md R53). -/
def valueBytes (o : ByteOrder) {m : Nat} (v : BitVec m) (n : Nat) : List Byte :=
  match o with
  | .big => (lowBytes v n).reverse
  | .little => lowBytes v n

/-- The instruction word at four bytes, "exactly as MemRead(pc, 4)" (20_memory.md R62). -/
def wordOfBytes (o : ByteOrder) (bs : List Byte) : IWord := BitVec.ofNat 32 (bytesToNat o bs)

/-! ### The parameter ENCODING (00_scope.md R5) -/

/-- The instruction of the first row of a table that has the word. -/
def lookupWord : List (IWord × Instr) → IWord → Option Instr
  | [], _ => none
  | r :: rows, w => if r.1 = w then some r.2 else lookupWord rows w

/-- `ENCODING.decode(word)` at a register size (10_state.md R25 step 3). Under every encoding a form whose subword size
does not exist there is reserved (30_encoding.md R105; log 38). -/
def decodeUnder (e : Encoding) (x : Xlen) (w : IWord) : Except DecodeError Instr :=
  match e with
  | .reference => decode x w
  | .table rows => match lookupWord rows w with
    | some i => if i.wf x then .ok i else .error .absentSize
    | none => .error .notInTable

/-- The instruction the decoder reads from a table word, laid out as bytes in the reference byte order and read back
as an instruction fetch reads it, at the reference register size and in the reference encoding. Every row of the table has 32 bits. -/
def decodeTableWord (nbits w : Nat) : Option Instr :=
  let c := Config.reference
  let bytes := valueBytes c.byteOrder (BitVec.ofNat 32 (w % 2 ^ nbits)) 4
  match decodeUnder c.encoding c.xlen (wordOfBytes c.byteOrder bytes) with
  | .ok i => some i
  | .error _ => none

end Sys2Proof
end

