-- ==== Sys2Proof/Machine/State.lean ====
section
/-! DEFINITION. The state of a PLX 1.0 processor, "exactly" the table of 10_state.md R20, as plain data, with the
reasons a step can stop and the state after reset (10_state.md R36, 70_reset_and_hazards.md R330). -/

namespace Sys2Proof.Machine
open Sys2Proof

/-- The machine. Every field but `cfg` is a row of 10_state.md R20. -/
structure State where
  /-- the parameters of 00_scope.md R5; the model's own field, which no step changes (log 51) -/
  cfg : Config
  /-- R0 .. R31, each an XLEN-bit value zero-extended (R21; log 52); R0's cell holds 0 and is not read -/
  gpr : Vector Cell64 32
  /-- the program counter, an XLEN-bit value zero-extended (R24; log 52) -/
  pc : Cell64
  /-- the predicate register sets: bit i-1 of a set is Pi; P0 is no state (R28, R30; log 14) -/
  ps : Vector (BitVec 7) 16
  /-- the active predicate set selector (R29) -/
  aps : PredSet
  /-- the halted flag (R34) -/
  halted : Bool
  /-- the memory bytes that have a value, by strictly rising address (R20, 20_memory.md R59; log 57) -/
  mem : List Host.Cell
deriving DecidableEq, Repr

/-- The cases of `UnspecifiedBehaviour` (60_exceptions.md R308). -/
inductive UnspecifiedCase where
  /-- cmp, cmpi, testbit with Pa = Pb ≠ 0 (41_compare_predication.md R142) -/
  | cmpSamePredicate
  /-- load.sw.update with Rd = Rs1 ≠ 0 (42_memory_access.md R165) -/
  | loadUpdateSameRegister
  /-- jmp.reg.link with Rd = 31 (40_flow_control.md R124) -/
  | linkThroughR31
  /-- slli, srli, srai with u(imm13) = XLEN (44_shift_bitfield.md R190) -/
  | shiftByXlen
  /-- extract, deposit with length 0 or a field past bit XLEN-1 (44_shift_bitfield.md R195, R196) -/
  | bitfieldRange
  /-- pshift, pshifti by the subword width or more (47_shift_packed.md R260) -/
  | packedShiftRange
  /-- a store touching TEXT (20_memory.md R65) -/
  | storeToText
deriving DecidableEq, Repr

/-- The model-level faults (60_exceptions.md R301): "the instruction in progress writes nothing" and the run stops.
None is something PLX hardware is known to do; stopping where a real machine may go on is safe in each case.
`UninitialisedRead` is not among them: every register holds a value (log 49). -/
inductive Fault where
  /-- raised by any step whose pc is not a multiple of 4 (R303); safe -/
  | misalignedFetch (pc : Cell64)
  /-- raised by a fetch, load or store; the lowest byte address outside MEM_MAP (R305); safe -/
  | accessFault (addr : Nat)
  /-- raised by any step whose word is reserved, whatever its guard (R302); safe -/
  | illegalInstruction (word : IWord)
  /-- raised by a load or store whose effective address is not a multiple of its size (R307); safe -/
  | misalignedData (ea : Cell64)
  /-- raised by the instructions that `UnspecifiedCase` names (R308); safe -/
  | unspecifiedBehaviour (case : UnspecifiedCase)
  /-- the model's own: raised by a fetch that touches a byte of MEM_MAP nothing has given a value (log 57); safe -/
  | uninitialisedFetch (addr : Nat)
deriving DecidableEq, Repr

/-- Why `exec` has no meaning for a term. -/
inductive Refusal where
  /-- an instruction whose arm has no meaning yet; no arm of this model answers it; safe -/
  | notModelled (mnemonic : String)
  /-- `exec` was given a form whose subword size does not exist at this XLEN (30_encoding.md R105). The decoder never
  yields such a term, so no step answers this (log 60); safe -/
  | absentForm
deriving DecidableEq, Repr

/-- The outcome of a step or of one instruction. -/
abbrev Result := Host.Outcome State Fault Refusal

/-- The state after reset for a configuration (10_state.md R36, 70_reset_and_hazards.md R330): the pc at RESET_PC, not
halted, nothing in memory. The registers, the selector and the predicates, which the spec leaves unspecified, hold the
zeros of logs 53 and 54 (DESIGN CHOICE, unsafe). -/
def State.resetWith (c : Config) : State where
  cfg := c
  gpr := Vector.replicate 32 0#64
  pc := BitVec.ofNat 64 c.resetPc
  ps := Vector.replicate 16 0#7
  aps := 0
  halted := false
  mem := []

/-- The machine right after reset, at the reference configuration (00_scope.md R3, R5). -/
def State.reset : State := State.resetWith Config.reference

/-- `XLEN` of this machine, in bits. -/
def State.xlen (s : State) : Nat := s.cfg.xlen.bits

end Sys2Proof.Machine
end

