-- ==== Sys2Proof/Machine/Operands.lean ====
section
/-! DEFINITION. How operand values are formed and cut into subwords: immediates (30_encoding.md R96), lanes and ordinals
(00_scope.md R8, R9), saturation (R10), bit fields. Everything is written over the register size N. -/

namespace Sys2Proof.Machine
open Sys2Proof

/-! ### Immediates and addresses -/

/-- `x + sext(imm)`: the sum of addi, of an effective address and of a jump (43_alu_immediate.md R181,
42_memory_access.md R162, 40_flow_control.md R120), modulo 2^N. -/
def addSext {N m : Nat} (a : BitVec N) (imm : BitVec m) : BitVec N := a + imm.signExtend N

/-! ### Subwords (00_scope.md R8, R9) -/

/-- `lane_w(v, k)`: subword k, lane 0 the least significant (R8). -/
def lane {N : Nat} (w : Nat) (v : BitVec N) (k : Nat) : BitVec w := v.extractLsb' (w * k) w

/-- The number of w-bit subwords in an N-bit register (R8). -/
def laneCount (N w : Nat) : Nat := N / w

/-- The N-bit value whose lanes 0 to n-1 are `g 0` to `g (n-1)`, and whose other bits are 0. -/
def ofLanes (N w : Nat) (g : Nat → BitVec w) : Nat → BitVec N
  | 0 => 0#N
  | n + 1 => ofLanes N w g n ||| ((g n).setWidth N <<< (w * n))

/-- `ord_w(v, i)`: the i-th subword from the left, counted from 1; `ord_w(v, i) = lane_w(v, n - i)` (R9). -/
def ord {N : Nat} (w : Nat) (v : BitVec N) (i : Nat) : BitVec w := lane w v (laneCount N w - i)

/-- The value whose subwords from the left are `g 1`, `g 2`, … (R9). -/
def ofOrds (N w : Nat) (g : Nat → BitVec w) : BitVec N :=
  ofLanes N w (fun k => g (laneCount N w - k)) (laneCount N w)

/-- A lanewise operation on one source (45_alu_packed.md R210). -/
def mapLanes {N : Nat} (w : Nat) (f : BitVec w → BitVec w) (a : BitVec N) : BitVec N :=
  ofLanes N w (fun k => f (lane w a k)) (laneCount N w)

/-- A lanewise operation on two sources (45_alu_packed.md R210). -/
def zipLanes {N : Nat} (w : Nat) (f : BitVec w → BitVec w → BitVec w) (a b : BitVec N) : BitVec N :=
  ofLanes N w (fun k => f (lane w a k) (lane w b k)) (laneCount N w)

/-! ### Saturation (00_scope.md R10) -/

/-- `sat_s(r, w)`: r clamped to the signed w-bit range. -/
def satS (w : Nat) (r : Int) : BitVec w :=
  if r < -((2 ^ (w - 1) : Nat) : Int) then BitVec.ofInt w (-((2 ^ (w - 1) : Nat) : Int))
  else if ((2 ^ (w - 1) : Nat) : Int) - 1 < r then BitVec.ofInt w (((2 ^ (w - 1) : Nat) : Int) - 1)
  else BitVec.ofInt w r

/-- `sat_u(r, w)`: r clamped to the unsigned w-bit range. -/
def satU (w : Nat) (r : Int) : BitVec w :=
  if r < 0 then 0#w
  else if ((2 ^ w : Nat) : Int) - 1 < r then BitVec.allOnes w
  else BitVec.ofInt w r

/-! ### Bit fields -/

/-- `v` with the `len` bits from `pos` replaced by the low `len` bits of `u` (44_shift_bitfield.md R196,
42_memory_access.md R160, R161), for `len ≤ N`. -/
def depositBits {N : Nat} (v u : BitVec N) (pos len : Nat) : BitVec N :=
  let mask := (BitVec.allOnes N >>> (N - len)) <<< pos
  (v &&& ~~~mask) ||| ((u <<< pos) &&& mask)

/-- The `len` bits of `v` from `pos`, right-aligned and zero-extended (44_shift_bitfield.md R195). -/
def extractBits {N : Nat} (v : BitVec N) (pos len : Nat) : BitVec N := (v.extractLsb' pos len).setWidth N

/-- `ext(v)`: a loaded value fills a register (42_memory_access.md R163). -/
def extendLoaded (e : LoadExtend) (N : Nat) {m : Nat} (v : BitVec m) : BitVec N :=
  match e with
  | .zero => v.setWidth N
  | .sign => v.signExtend N

end Sys2Proof.Machine
end

