-- ==== Sys2Proof/Machine/Flags.lean ====
section
/-! DEFINITION. The truth values that cmp, cmpi and testbit compute: "the only flags PLX 1.0 has" are the predicate
registers (10_state.md R28). -/

namespace Sys2Proof.Machine
open Sys2Proof

/-- The ten relations (41_compare_predication.md R143). -/
inductive Rel where
  | eq
  | ne
  | lt
  | le
  | gt
  | ge
  | ltu
  | leu
  | gtu
  | geu
deriving DecidableEq, Repr

/-- The truth value t of a relation between the first operand a and the second b (41_compare_predication.md R143). -/
def relHolds {N : Nat} (r : Rel) (a b : BitVec N) : Bool :=
  match r with
  | .eq => decide (a = b)
  | .ne => decide (a ≠ b)
  | .lt => decide (a.toInt < b.toInt)
  | .le => decide (a.toInt ≤ b.toInt)
  | .gt => decide (a.toInt > b.toInt)
  | .ge => decide (a.toInt ≥ b.toInt)
  | .ltu => decide (a.toNat < b.toNat)
  | .leu => decide (a.toNat ≤ b.toNat)
  | .gtu => decide (a.toNat > b.toNat)
  | .geu => decide (a.toNat ≥ b.toNat)

/-- The truth value of testbit: the bit, or 0 where no bit is selected (41_compare_predication.md R146). -/
def bitSelected {N : Nat} (a : BitVec N) (imm8 : BitVec 8) : Bool :=
  if imm8.toNat < N then a.getLsbD imm8.toNat else false

end Sys2Proof.Machine
end

