-- ==== Sys2Proof/Machine/Ops.lean ====
section
/-! DEFINITION. The named operations every meaning is made of: memory, registers, predicates, the pc, the guard, and the
halt. PLX 1.0 takes no exception and returns from none (60_exceptions.md R300, R309): "the only word on the subject is
the entry of the trap instruction", and `State.halt` is what that does. -/

namespace Sys2Proof.Machine
open Sys2Proof

/-! ### Memory as sorted (address, byte) pairs; an unlisted address has no value (log 57) -/

/-- The byte at an address, if something has given it a value. -/
def Memory.read : List Host.Cell → Nat → Option Byte
  | [], _ => none
  | c :: m, a => if a = c.1 then some c.2 else Memory.read m a

/-- Memory with one byte written, in address order. -/
def Memory.write : List Host.Cell → Nat → Byte → List Host.Cell
  | [], a, v => [(a, v)]
  | c :: m, a, v =>
    if a < c.1 then (a, v) :: c :: m
    else if a = c.1 then (a, v) :: m
    else c :: Memory.write m a v

/-- Memory with consecutive bytes written from an address up. -/
def Memory.writeBytes : List Host.Cell → Nat → List Byte → List Host.Cell
  | m, _, [] => m
  | m, a, b :: bs => Memory.writeBytes (Memory.write m a b) (a + 1) bs

/-- The canonical form: addresses strictly rising. An unlisted address has no value, so no entry can equal it. -/
def Memory.wf : List Host.Cell → Bool
  | [] => true
  | c :: m => m.all (fun d => decide (c.1 < d.1)) && Memory.wf m

/-- The byte of memory at an address, none where nothing has given it a value. -/
def State.readByte (s : State) (a : Nat) : Option Byte := Memory.read s.mem a

/-- The byte a data load sees: the byte last written there, or the free value of the address (20_memory.md R61,
93_implementation_defined.md U18; log 57). -/
def State.loadByte (s : State) (a : Nat) : Byte := (s.readByte a).getD (Config.freeByte a)

/-- The bytes a data load of n bytes sees, lowest address first. -/
def State.loadBytes (s : State) : Nat → Nat → List Byte
  | _, 0 => []
  | a, n + 1 => s.loadByte a :: s.loadBytes (a + 1) n

/-- The lowest address outside MEM_MAP among the n from a (60_exceptions.md R305). -/
def firstUnmapped (c : Config) : Nat → Nat → Option Nat
  | _, 0 => none
  | a, n + 1 => if c.mapped a then firstUnmapped c (a + 1) n else some a

/-- The lowest address without a value among the n from a. -/
def firstUnwritten (s : State) : Nat → Nat → Option Nat
  | _, 0 => none
  | a, n + 1 => if (s.readByte a).isSome then firstUnwritten s (a + 1) n else some a

/-- A byte of the n from a lies in TEXT (20_memory.md R65). -/
def touchesText (c : Config) : Nat → Nat → Bool
  | _, 0 => false
  | a, n + 1 => c.inText a || touchesText c (a + 1) n

/-- What stops a data access: alignment first, then the address map (20_memory.md R55, R59; 60_exceptions.md R305,
R307, R312). -/
def accessFault? {N : Nat} (c : Config) (ea : BitVec N) (n : Nat) : Option Fault :=
  if ea.toNat % n ≠ 0 then some (.misalignedData (ea.setWidth 64))
  else (firstUnmapped c ea.toNat n).map .accessFault

/-- `MemRead(ea, n)` (20_memory.md R52). -/
def State.memRead (s : State) {N : Nat} (ea : BitVec N) (n : Nat) : Except Fault (BitVec (8 * n)) :=
  match accessFault? s.cfg ea n with
  | some f => .error f
  | none => .ok (BitVec.ofNat (8 * n) (bytesToNat s.cfg.byteOrder (s.loadBytes ea.toNat n)))

/-- `MemWrite(ea, n, v)` (20_memory.md R53), of the low 8n bits of v; a store into TEXT is given no meaning (R65). -/
def State.memWrite (s : State) {N m : Nat} (ea : BitVec N) (n : Nat) (v : BitVec m) : Except Fault State :=
  match accessFault? s.cfg ea n with
  | some f => .error f
  | none =>
    if touchesText s.cfg ea.toNat n then .error (.unspecifiedBehaviour .storeToText)
    else .ok { s with mem := Memory.writeBytes s.mem ea.toNat (valueBytes s.cfg.byteOrder v n) }

/-! ### Registers -/

/-- `x[r]` at register size N: R0 "always returns 0 when read" (10_state.md R21). -/
def State.reg (s : State) (N : Nat) (r : Reg) : BitVec N :=
  if r = 0 then 0#N else (s.gpr[r.val]).setWidth N

/-- `x[r] <- v`: "Writing a value to R0 has no effect" (10_state.md R21). -/
def State.setReg (s : State) (r : Reg) {N : Nat} (v : BitVec N) : State :=
  if r = 0 then s else { s with gpr := s.gpr.set r.val (v.setWidth 64) r.isLt }

/-- The link register (10_state.md R22). -/
def linkReg : Reg := 31

/-- The pc at register size N (10_state.md R24). -/
def State.pcv (s : State) (N : Nat) : BitVec N := s.pc.setWidth N

/-- `pc <- v`. -/
def State.setPc (s : State) {N : Nat} (v : BitVec N) : State := { s with pc := v.setWidth 64 }

/-- `pc <- pc + 4`, modulo 2^XLEN (10_state.md R26, R27). -/
def State.advance (s : State) : State := s.setPc (s.pcv s.xlen + 4#s.xlen)

/-- `pc <- pc + offset`, modulo 2^XLEN (40_flow_control.md R120). -/
def State.jumpBy (s : State) (offset : BitVec s.xlen) : State := s.setPc (s.pcv s.xlen + offset)

/-- An executed trap: "The processor halts execution"; nothing else changes (40_flow_control.md R125, 10_state.md R34,
60_exceptions.md R309). -/
def State.halt (s : State) : State := { s with halted := true }

/-! ### Predicates -/

/-- `p[i]` of the active set: P0 reads 1 (10_state.md R28, R30). -/
def State.pred (s : State) (i : Pred) : Bool :=
  if i = 0 then true else (s.ps[s.aps.val]).getLsbD (i.val - 1)

/-- Bit k of a set replaced. -/
def withBit (v : BitVec 7) (k : Nat) (b : Bool) : BitVec 7 :=
  (v &&& ~~~(1#7 <<< k)) ||| ((BitVec.ofBool b).setWidth 7 <<< k)

/-- `p[i] <- b` in the active set: a write to P0 is dropped (10_state.md R30). -/
def State.setPred (s : State) (i : Pred) (b : Bool) : State :=
  if i = 0 then s
  else { s with ps := s.ps.set s.aps.val (withBit s.ps[s.aps.val] (i.val - 1) b) s.aps.isLt }

/-- `aps <- k` (41_compare_predication.md R140). -/
def State.setAps (s : State) (k : PredSet) : State := { s with aps := k }

/-- P1..P7 of the active set take bits 1..7 of a byte; bit 0 is dropped (41_compare_predication.md R141). -/
def State.loadPreds (s : State) (v : BitVec 8) : State :=
  { s with ps := s.ps.set s.aps.val (v.extractLsb' 1 7) s.aps.isLt }

/-! ### The frame of a meaning -/

/-- The guard: an instruction whose guard reads 0 "is nullified": only the pc advances (10_state.md R31). -/
def guarded (p : Pred) (s : State) (body : Result) : Result :=
  if s.pred p then body else .next s.advance

/-- A form whose widest operand has w bits exists only where w ≤ XLEN (30_encoding.md R105; log 60). -/
def sized (w : Nat) (s : State) (body : Result) : Result :=
  if w ≤ s.xlen then body else .refused .absentForm

/-- The end of an instruction that is no jump and no trap: the pc advances (10_state.md R26). -/
def finish (s : State) : Result := .next s.advance

/-- The end of an instruction that writes one register (10_state.md R26). -/
def writeReg (s : State) (rd : Reg) {N : Nat} (v : BitVec N) : Result := finish (s.setReg rd v)

/-- A case to which the spec gives no meaning (60_exceptions.md R308). -/
def unspecified (c : UnspecifiedCase) : Result := .fault (.unspecifiedBehaviour c)

/-- The step of a halted machine: it "performs no further step: it fetches nothing and changes no state"
(10_state.md R34; log 58). -/
def idle (s : State) : Result := .next s

end Sys2Proof.Machine
end

