-- ==== Sys2Proof/Machine/AluImmediate.lean ====
section
/-! DEFINITION. ALU instructions with immediate (43_alu_immediate.md): the arithmetic forms sign-extend imm13, the logical
forms zero-extend it (R180). -/

namespace Sys2Proof.Machine
open Sys2Proof

/-- R181: "Imm13 is sign extended and added to Rs1." -/
def execAddi (p : Pred) (rd rs1 : Reg) (imm13 : BitVec 13) (s : State) : Result :=
  guarded p s (writeReg s rd (addSext (s.reg s.xlen rs1) imm13))

/-- R184: "Imm13 is sign extended and subtracted from Rs1." -/
def execSubi (p : Pred) (rd rs1 : Reg) (imm13 : BitVec 13) (s : State) : Result :=
  guarded p s (writeReg s rd (s.reg s.xlen rs1 - imm13.signExtend s.xlen))

/-- R182: "Imm13 is zero extended and anded with Rs1." -/
def execAndi (p : Pred) (rd rs1 : Reg) (imm13 : BitVec 13) (s : State) : Result :=
  guarded p s (writeReg s rd (s.reg s.xlen rs1 &&& imm13.setWidth s.xlen))

/-- R183: "Imm13 is zero extended and ored with Rs1." -/
def execOri (p : Pred) (rd rs1 : Reg) (imm13 : BitVec 13) (s : State) : Result :=
  guarded p s (writeReg s rd (s.reg s.xlen rs1 ||| imm13.setWidth s.xlen))

/-- R185: "Imm13 is zero extended and xored with Rs1." -/
def execXori (p : Pred) (rd rs1 : Reg) (imm13 : BitVec 13) (s : State) : Result :=
  guarded p s (writeReg s rd (s.reg s.xlen rs1 ^^^ imm13.setWidth s.xlen))

end Sys2Proof.Machine
end

