-- ==== Sys2Proof/Machine/ComparePredicate.lean ====
section
/-! DEFINITION. Compare instructions and predication (41_compare_predication.md). -/

namespace Sys2Proof.Machine
open Sys2Proof

/-- R142: Pa takes the truth value, Pb its complement; Pa = Pb ≠ P0 is given no meaning. -/
def writePreds (p pa pb : Pred) (s : State) (t : Bool) : Result :=
  guarded p s
    (if pa = pb ∧ pa ≠ 0 then unspecified .cmpSamePredicate
     else finish ((s.setPred pa t).setPred pb (!t)))

/-- R144: Rs1 and Rs2 compared by a relation of R143. -/
def compare (r : Rel) (p : Pred) (rs1 rs2 : Reg) (pa pb : Pred) (s : State) : Result :=
  writePreds p pa pb s (relHolds r (s.reg s.xlen rs1) (s.reg s.xlen rs2))

/-- R145: "Rs1 is compared to sign-extended imm8", for the unsigned relations too. -/
def compareImm (r : Rel) (p : Pred) (rs1 : Reg) (imm8 : BitVec 8) (pa pb : Pred) (s : State) : Result :=
  writePreds p pa pb s (relHolds r (s.reg s.xlen rs1) (imm8.signExtend s.xlen))

/-- R140: "the active predicate register set is changed to the predicate register set specified by imm4"; the guard is
read in the old set. -/
def execChangepr (p : Pred) (imm4 : BitVec 4) (s : State) : Result :=
  guarded p s (finish (s.setAps imm4.toFin))

/-- R141: as changepr, "and imm8 is written to this predicate register set": bit i to Pi, bit 0 dropped. -/
def execChangeprLd (p : Pred) (imm4 : BitVec 4) (imm8 : BitVec 8) (s : State) : Result :=
  guarded p s (finish ((s.setAps imm4.toFin).loadPreds imm8))

/-- R146: "The bit specified by imm8 is selected from Rd." -/
def execTestbit (p : Pred) (rd : Reg) (imm8 : BitVec 8) (pa pb : Pred) (s : State) : Result :=
  writePreds p pa pb s (bitSelected (s.reg s.xlen rd) imm8)

/-- `cmp.eq` (R144). -/
def execCmpEq (p : Pred) (rs1 rs2 : Reg) (pa pb : Pred) (s : State) : Result :=
  compare .eq p rs1 rs2 pa pb s

/-- `cmp.ne` (R144). -/
def execCmpNe (p : Pred) (rs1 rs2 : Reg) (pa pb : Pred) (s : State) : Result :=
  compare .ne p rs1 rs2 pa pb s

/-- `cmp.lt` (R144). -/
def execCmpLt (p : Pred) (rs1 rs2 : Reg) (pa pb : Pred) (s : State) : Result :=
  compare .lt p rs1 rs2 pa pb s

/-- `cmp.le` (R144). -/
def execCmpLe (p : Pred) (rs1 rs2 : Reg) (pa pb : Pred) (s : State) : Result :=
  compare .le p rs1 rs2 pa pb s

/-- `cmp.gt` (R144). -/
def execCmpGt (p : Pred) (rs1 rs2 : Reg) (pa pb : Pred) (s : State) : Result :=
  compare .gt p rs1 rs2 pa pb s

/-- `cmp.ge` (R144). -/
def execCmpGe (p : Pred) (rs1 rs2 : Reg) (pa pb : Pred) (s : State) : Result :=
  compare .ge p rs1 rs2 pa pb s

/-- `cmp.ltu` (R144). -/
def execCmpLtu (p : Pred) (rs1 rs2 : Reg) (pa pb : Pred) (s : State) : Result :=
  compare .ltu p rs1 rs2 pa pb s

/-- `cmp.leu` (R144). -/
def execCmpLeu (p : Pred) (rs1 rs2 : Reg) (pa pb : Pred) (s : State) : Result :=
  compare .leu p rs1 rs2 pa pb s

/-- `cmp.gtu` (R144). -/
def execCmpGtu (p : Pred) (rs1 rs2 : Reg) (pa pb : Pred) (s : State) : Result :=
  compare .gtu p rs1 rs2 pa pb s

/-- `cmp.geu` (R144). -/
def execCmpGeu (p : Pred) (rs1 rs2 : Reg) (pa pb : Pred) (s : State) : Result :=
  compare .geu p rs1 rs2 pa pb s

/-- `cmpi.eq` (R145). -/
def execCmpiEq (p : Pred) (rs1 : Reg) (imm8 : BitVec 8) (pa pb : Pred) (s : State) : Result :=
  compareImm .eq p rs1 imm8 pa pb s

/-- `cmpi.ne` (R145). -/
def execCmpiNe (p : Pred) (rs1 : Reg) (imm8 : BitVec 8) (pa pb : Pred) (s : State) : Result :=
  compareImm .ne p rs1 imm8 pa pb s

/-- `cmpi.lt` (R145). -/
def execCmpiLt (p : Pred) (rs1 : Reg) (imm8 : BitVec 8) (pa pb : Pred) (s : State) : Result :=
  compareImm .lt p rs1 imm8 pa pb s

/-- `cmpi.le` (R145). -/
def execCmpiLe (p : Pred) (rs1 : Reg) (imm8 : BitVec 8) (pa pb : Pred) (s : State) : Result :=
  compareImm .le p rs1 imm8 pa pb s

/-- `cmpi.gt` (R145). -/
def execCmpiGt (p : Pred) (rs1 : Reg) (imm8 : BitVec 8) (pa pb : Pred) (s : State) : Result :=
  compareImm .gt p rs1 imm8 pa pb s

/-- `cmpi.ge` (R145). -/
def execCmpiGe (p : Pred) (rs1 : Reg) (imm8 : BitVec 8) (pa pb : Pred) (s : State) : Result :=
  compareImm .ge p rs1 imm8 pa pb s

/-- `cmpi.ltu` (R145). -/
def execCmpiLtu (p : Pred) (rs1 : Reg) (imm8 : BitVec 8) (pa pb : Pred) (s : State) : Result :=
  compareImm .ltu p rs1 imm8 pa pb s

/-- `cmpi.leu` (R145). -/
def execCmpiLeu (p : Pred) (rs1 : Reg) (imm8 : BitVec 8) (pa pb : Pred) (s : State) : Result :=
  compareImm .leu p rs1 imm8 pa pb s

/-- `cmpi.gtu` (R145). -/
def execCmpiGtu (p : Pred) (rs1 : Reg) (imm8 : BitVec 8) (pa pb : Pred) (s : State) : Result :=
  compareImm .gtu p rs1 imm8 pa pb s

/-- `cmpi.geu` (R145). -/
def execCmpiGeu (p : Pred) (rs1 : Reg) (imm8 : BitVec 8) (pa pb : Pred) (s : State) : Result :=
  compareImm .geu p rs1 imm8 pa pb s

end Sys2Proof.Machine
end

