-- ==== Sys2Proof/Machine/FlowControl.lean ====
section
/-! DEFINITION. Program flow control (40_flow_control.md). -/

namespace Sys2Proof.Machine
open Sys2Proof

/-- R121: "imm23 is added to the current PC. The result becomes the new PC." -/
def execJmp (p : Pred) (imm23 : BitVec 23) (s : State) : Result :=
  guarded p s (.next (s.jumpBy (imm23.signExtend s.xlen)))

/-- R122: the link is written, and imm23 is added to the address of the jump itself. -/
def execJmpLink (p : Pred) (imm23 : BitVec 23) (s : State) : Result :=
  guarded p s (.next ((s.setReg linkReg (s.pcv s.xlen + 4#s.xlen)).setPc (s.pcv s.xlen + imm23.signExtend s.xlen)))

/-- R123: "Rd is added to the current PC. The result becomes the new PC."; no register is written. -/
def execJmpReg (p : Pred) (rd : Reg) (s : State) : Result :=
  guarded p s (.next (s.jumpBy (s.reg s.xlen rd)))

/-- R124: as R123 with the link; the case Rd = R31 is given no meaning. -/
def execJmpRegLink (p : Pred) (rd : Reg) (s : State) : Result :=
  guarded p s
    (if rd = linkReg then unspecified .linkThroughR31
     else .next ((s.setReg linkReg (s.pcv s.xlen + 4#s.xlen)).setPc (s.pcv s.xlen + s.reg s.xlen rd)))

/-- R125: the processor halts with the pc unchanged. With TRAP_PREDICATED = false it halts whatever its guard
(10_state.md R25 step 5). -/
def execTrap (p : Pred) (s : State) : Result :=
  if s.cfg.trapPredicated then guarded p s (.next s.halt) else .next s.halt

end Sys2Proof.Machine
end

