-- ==== Sys2Proof/Machine/Logical.lean ====
section
/-! DEFINITION. The logical instructions, which "act on all XLEN bits and have no subword size" (45_alu_packed.md R222 to
R226). -/

namespace Sys2Proof.Machine
open Sys2Proof

/-- R222. -/
def execAndReg (p : Pred) (rd rs1 rs2 : Reg) (s : State) : Result :=
  guarded p s (writeReg s rd (s.reg s.xlen rs1 &&& s.reg s.xlen rs2))

/-- R223: "Rs1 and the complement of Rs2 are anded." -/
def execAndcm (p : Pred) (rd rs1 rs2 : Reg) (s : State) : Result :=
  guarded p s (writeReg s rd (s.reg s.xlen rs1 &&& ~~~(s.reg s.xlen rs2)))

/-- R224. -/
def execOrReg (p : Pred) (rd rs1 rs2 : Reg) (s : State) : Result :=
  guarded p s (writeReg s rd (s.reg s.xlen rs1 ||| s.reg s.xlen rs2))

/-- R225. -/
def execXorReg (p : Pred) (rd rs1 rs2 : Reg) (s : State) : Result :=
  guarded p s (writeReg s rd (s.reg s.xlen rs1 ^^^ s.reg s.xlen rs2))

/-- R226: "Rs1 is complemented. ... Rs2 is ignored." -/
def execNotReg (p : Pred) (rd rs1 : Reg) (s : State) : Result :=
  guarded p s (writeReg s rd (~~~(s.reg s.xlen rs1)))

end Sys2Proof.Machine
end

