-- ==== Sys2Proof/Machine/MemoryAccess.lean ====
section
/-! DEFINITION. Memory access (42_memory_access.md). -/

namespace Sys2Proof.Machine
open Sys2Proof

/-- R160: imm18[15:0] goes to bits 31..16 of Rd; the other bits are kept. -/
def execLoadiHi (p : Pred) (rd : Reg) (imm16 : BitVec 16) (s : State) : Result :=
  guarded p s (writeReg s rd (depositBits (s.reg s.xlen rd) (imm16.setWidth s.xlen) 16 16))

/-- R161: imm18[15:0] goes to bits 15..0 of Rd; the other bits are kept. -/
def execLoadiLo (p : Pred) (rd : Reg) (imm16 : BitVec 16) (s : State) : Result :=
  guarded p s (writeReg s rd (depositBits (s.reg s.xlen rd) (imm16.setWidth s.xlen) 0 16))

/-- R162: the effective address, `x[Rs1] + sext(imm13)` modulo 2^XLEN. -/
def State.effectiveAddress (s : State) (rs1 : Reg) (imm13 : BitVec 13) : BitVec s.xlen :=
  addSext (s.reg s.xlen rs1) imm13

/-- R164: n bytes at the effective address are loaded into Rd. -/
def load (n : Nat) (p : Pred) (rd rs1 : Reg) (imm13 : BitVec 13) (s : State) : Result :=
  sized (8 * n) s <| guarded p s <|
    match s.memRead (s.effectiveAddress rs1 imm13) n with
    | .error f => .fault f
    | .ok v => writeReg s rd (extendLoaded s.cfg.loadExtend s.xlen v)

/-- R165: as R164, and "Rs1 is replaced with Rs1+imm13 after the load is completed"; Rd = Rs1 ≠ R0 is given no
meaning. -/
def loadUpdate (n : Nat) (p : Pred) (rd rs1 : Reg) (imm13 : BitVec 13) (s : State) : Result :=
  sized (8 * n) s <| guarded p s <|
    if rd = rs1 ∧ rd ≠ 0 then unspecified .loadUpdateSameRegister
    else match s.memRead (s.effectiveAddress rs1 imm13) n with
      | .error f => .fault f
      | .ok v =>
        writeReg (s.setReg rd (extendLoaded s.cfg.loadExtend s.xlen v)) rs1 (s.effectiveAddress rs1 imm13)

/-- R166: the low n bytes of Rd are stored at the effective address. -/
def store (n : Nat) (p : Pred) (rd rs1 : Reg) (imm13 : BitVec 13) (s : State) : Result :=
  sized (8 * n) s <| guarded p s <|
    match s.memWrite (s.effectiveAddress rs1 imm13) n (s.reg s.xlen rd) with
    | .error f => .fault f
    | .ok t => finish t

/-- R167: as R166, and "Rs1 is replaced with Rs1+imm13 after the store is completed". -/
def storeUpdate (n : Nat) (p : Pred) (rd rs1 : Reg) (imm13 : BitVec 13) (s : State) : Result :=
  sized (8 * n) s <| guarded p s <|
    match s.memWrite (s.effectiveAddress rs1 imm13) n (s.reg s.xlen rd) with
    | .error f => .fault f
    | .ok t => writeReg t rs1 (s.effectiveAddress rs1 imm13)

/-- `load.1` (R164). -/
def execLoad1 (p : Pred) (rd rs1 : Reg) (imm13 : BitVec 13) (s : State) : Result :=
  load 1 p rd rs1 imm13 s

/-- `load.2` (R164). -/
def execLoad2 (p : Pred) (rd rs1 : Reg) (imm13 : BitVec 13) (s : State) : Result :=
  load 2 p rd rs1 imm13 s

/-- `load.4` (R164). -/
def execLoad4 (p : Pred) (rd rs1 : Reg) (imm13 : BitVec 13) (s : State) : Result :=
  load 4 p rd rs1 imm13 s

/-- `load.8` (R164). -/
def execLoad8 (p : Pred) (rd rs1 : Reg) (imm13 : BitVec 13) (s : State) : Result :=
  load 8 p rd rs1 imm13 s

/-- `load.1.update` (R165). -/
def execLoad1Update (p : Pred) (rd rs1 : Reg) (imm13 : BitVec 13) (s : State) : Result :=
  loadUpdate 1 p rd rs1 imm13 s

/-- `load.2.update` (R165). -/
def execLoad2Update (p : Pred) (rd rs1 : Reg) (imm13 : BitVec 13) (s : State) : Result :=
  loadUpdate 2 p rd rs1 imm13 s

/-- `load.4.update` (R165). -/
def execLoad4Update (p : Pred) (rd rs1 : Reg) (imm13 : BitVec 13) (s : State) : Result :=
  loadUpdate 4 p rd rs1 imm13 s

/-- `load.8.update` (R165). -/
def execLoad8Update (p : Pred) (rd rs1 : Reg) (imm13 : BitVec 13) (s : State) : Result :=
  loadUpdate 8 p rd rs1 imm13 s

/-- `store.1` (R166). -/
def execStore1 (p : Pred) (rd rs1 : Reg) (imm13 : BitVec 13) (s : State) : Result :=
  store 1 p rd rs1 imm13 s

/-- `store.2` (R166). -/
def execStore2 (p : Pred) (rd rs1 : Reg) (imm13 : BitVec 13) (s : State) : Result :=
  store 2 p rd rs1 imm13 s

/-- `store.4` (R166). -/
def execStore4 (p : Pred) (rd rs1 : Reg) (imm13 : BitVec 13) (s : State) : Result :=
  store 4 p rd rs1 imm13 s

/-- `store.8` (R166). -/
def execStore8 (p : Pred) (rd rs1 : Reg) (imm13 : BitVec 13) (s : State) : Result :=
  store 8 p rd rs1 imm13 s

/-- `store.1.update` (R167). -/
def execStore1Update (p : Pred) (rd rs1 : Reg) (imm13 : BitVec 13) (s : State) : Result :=
  storeUpdate 1 p rd rs1 imm13 s

/-- `store.2.update` (R167). -/
def execStore2Update (p : Pred) (rd rs1 : Reg) (imm13 : BitVec 13) (s : State) : Result :=
  storeUpdate 2 p rd rs1 imm13 s

/-- `store.4.update` (R167). -/
def execStore4Update (p : Pred) (rd rs1 : Reg) (imm13 : BitVec 13) (s : State) : Result :=
  storeUpdate 4 p rd rs1 imm13 s

/-- `store.8.update` (R167). -/
def execStore8Update (p : Pred) (rd rs1 : Reg) (imm13 : BitVec 13) (s : State) : Result :=
  storeUpdate 8 p rd rs1 imm13 s

end Sys2Proof.Machine
end

