-- ==== Sys2Proof/Machine/PackedAlu.lean ====
section
/-! DEFINITION. Packed ALU instructions (45_alu_packed.md R210 to R221, R227 to R232). a and b are one lane of Rs1 and of Rs2. -/

namespace Sys2Proof.Machine
open Sys2Proof

/-- R210: every lane of the result is f of the lanes of Rs1 and Rs2. -/
def packed (w : Nat) (f : BitVec w → BitVec w → BitVec w) (p : Pred) (rd rs1 rs2 : Reg) (s : State) : Result :=
  sized w s (guarded p s (writeReg s rd (zipLanes w f (s.reg s.xlen rs1) (s.reg s.xlen rs2))))

/-- R212: the sum with unsigned saturation. -/
def addSatU {w : Nat} (a b : BitVec w) : BitVec w := satU w ((a.toNat : Int) + (b.toNat : Int))

/-- R213: the sum with signed saturation. -/
def addSatS {w : Nat} (a b : BitVec w) : BitVec w := satS w (a.toInt + b.toInt)

/-- R214: "their sum is incremented by one"; modular. -/
def addIncr {w : Nat} (a b : BitVec w) : BitVec w := a + b + 1#w

/-- R216: the difference with unsigned saturation. -/
def subSatU {w : Nat} (a b : BitVec w) : BitVec w := satU w ((a.toNat : Int) - (b.toNat : Int))

/-- R217: the difference with signed saturation. -/
def subSatS {w : Nat} (a b : BitVec w) : BitVec w := satS w (a.toInt - b.toInt)

/-- R218: "the difference is decremented by one"; modular. -/
def subDecr {w : Nat} (a b : BitVec w) : BitVec w := a - b - 1#w

/-- A (w+1)-bit number halved with its low bit or-ed into bit 0 (R219, R221). -/
def halveToOdd {w : Nat} (t : BitVec (w + 1)) : BitVec w := ((t >>> 1) ||| (t &&& 1#(w + 1))).setWidth w

/-- R219: the unsigned average, a half rounded to the odd neighbour. -/
def average {w : Nat} (a b : BitVec w) : BitVec w := halveToOdd (a.setWidth (w + 1) + b.setWidth (w + 1))

/-- R220: the unsigned average, a half rounded up. -/
def averageRaz {w : Nat} (a b : BitVec w) : BitVec w :=
  ((a.setWidth (w + 1) + b.setWidth (w + 1) + 1#(w + 1)) >>> 1).setWidth w

/-- R221: half the (w+1)-bit difference; under `carry` the top bit is complemented (log 22). -/
def subAverage {w : Nat} (top : SubAvgTop) (a b : BitVec w) : BitVec w :=
  let h := halveToOdd (a.setWidth (w + 1) - b.setWidth (w + 1))
  match top with
  | .borrow => h
  | .carry => h ^^^ BitVec.twoPow w (w - 1)

/-- A lane of ones or of zeros (R227, R228). -/
def mask (w : Nat) (b : Bool) : BitVec w := if b then BitVec.allOnes w else 0#w

/-- R227. -/
def maskEq {w : Nat} (a b : BitVec w) : BitVec w := mask w (decide (a = b))

/-- R228: strictly greater, signed. -/
def maskGt {w : Nat} (a b : BitVec w) : BitVec w := mask w (decide (b.toInt < a.toInt))

/-- R229: the signed maximum. -/
def maxS {w : Nat} (a b : BitVec w) : BitVec w := if b.toInt ≤ a.toInt then a else b

/-- R230: the signed minimum. -/
def minS {w : Nat} (a b : BitVec w) : BitVec w := if a.toInt ≤ b.toInt then a else b

/-- R231: the lane of Rs1 shifted left, within 16 bits or clamped to them (PSHIFTADD_SHIFT, log 24), then added with
signed saturation. -/
def shiftLeftAdd (m : ShiftAddShift) (sa : Nat) (a b : BitVec 16) : BitVec 16 :=
  let h := match m with
    | .modular => a <<< sa
    | .saturating => satS 16 (a.toInt * ((2 ^ sa : Nat) : Int))
  satS 16 (h.toInt + b.toInt)

/-- R232: the signed lane of Rs1 shifted right, then added with signed saturation. -/
def shiftRightAdd (sa : Nat) (a b : BitVec 16) : BitVec 16 := satS 16 ((a.sshiftRight sa).toInt + b.toInt)

/-- `padd.1` (R211). -/
def execPadd1 (p : Pred) (rd rs1 rs2 : Reg) (s : State) : Result :=
  packed 8 (· + ·) p rd rs1 rs2 s

/-- `padd.2` (R211). -/
def execPadd2 (p : Pred) (rd rs1 rs2 : Reg) (s : State) : Result :=
  packed 16 (· + ·) p rd rs1 rs2 s

/-- `padd.4` (R211). -/
def execPadd4 (p : Pred) (rd rs1 rs2 : Reg) (s : State) : Result :=
  packed 32 (· + ·) p rd rs1 rs2 s

/-- `padd.8` (R211). -/
def execPadd8 (p : Pred) (rd rs1 rs2 : Reg) (s : State) : Result :=
  packed 64 (· + ·) p rd rs1 rs2 s

/-- `padd.1.u` (R212). -/
def execPadd1U (p : Pred) (rd rs1 rs2 : Reg) (s : State) : Result :=
  packed 8 addSatU p rd rs1 rs2 s

/-- `padd.2.u` (R212). -/
def execPadd2U (p : Pred) (rd rs1 rs2 : Reg) (s : State) : Result :=
  packed 16 addSatU p rd rs1 rs2 s

/-- `padd.4.u` (R212). -/
def execPadd4U (p : Pred) (rd rs1 rs2 : Reg) (s : State) : Result :=
  packed 32 addSatU p rd rs1 rs2 s

/-- `padd.8.u` (R212). -/
def execPadd8U (p : Pred) (rd rs1 rs2 : Reg) (s : State) : Result :=
  packed 64 addSatU p rd rs1 rs2 s

/-- `padd.1.s` (R213). -/
def execPadd1S (p : Pred) (rd rs1 rs2 : Reg) (s : State) : Result :=
  packed 8 addSatS p rd rs1 rs2 s

/-- `padd.2.s` (R213). -/
def execPadd2S (p : Pred) (rd rs1 rs2 : Reg) (s : State) : Result :=
  packed 16 addSatS p rd rs1 rs2 s

/-- `padd.4.s` (R213). -/
def execPadd4S (p : Pred) (rd rs1 rs2 : Reg) (s : State) : Result :=
  packed 32 addSatS p rd rs1 rs2 s

/-- `padd.8.s` (R213). -/
def execPadd8S (p : Pred) (rd rs1 rs2 : Reg) (s : State) : Result :=
  packed 64 addSatS p rd rs1 rs2 s

/-- `paddincr.1` (R214). -/
def execPaddincr1 (p : Pred) (rd rs1 rs2 : Reg) (s : State) : Result :=
  packed 8 addIncr p rd rs1 rs2 s

/-- `paddincr.2` (R214). -/
def execPaddincr2 (p : Pred) (rd rs1 rs2 : Reg) (s : State) : Result :=
  packed 16 addIncr p rd rs1 rs2 s

/-- `paddincr.4` (R214). -/
def execPaddincr4 (p : Pred) (rd rs1 rs2 : Reg) (s : State) : Result :=
  packed 32 addIncr p rd rs1 rs2 s

/-- `paddincr.8` (R214). -/
def execPaddincr8 (p : Pred) (rd rs1 rs2 : Reg) (s : State) : Result :=
  packed 64 addIncr p rd rs1 rs2 s

/-- `psub.1` (R215). -/
def execPsub1 (p : Pred) (rd rs1 rs2 : Reg) (s : State) : Result :=
  packed 8 (· - ·) p rd rs1 rs2 s

/-- `psub.2` (R215). -/
def execPsub2 (p : Pred) (rd rs1 rs2 : Reg) (s : State) : Result :=
  packed 16 (· - ·) p rd rs1 rs2 s

/-- `psub.4` (R215). -/
def execPsub4 (p : Pred) (rd rs1 rs2 : Reg) (s : State) : Result :=
  packed 32 (· - ·) p rd rs1 rs2 s

/-- `psub.8` (R215). -/
def execPsub8 (p : Pred) (rd rs1 rs2 : Reg) (s : State) : Result :=
  packed 64 (· - ·) p rd rs1 rs2 s

/-- `psub.1.u` (R216). -/
def execPsub1U (p : Pred) (rd rs1 rs2 : Reg) (s : State) : Result :=
  packed 8 subSatU p rd rs1 rs2 s

/-- `psub.2.u` (R216). -/
def execPsub2U (p : Pred) (rd rs1 rs2 : Reg) (s : State) : Result :=
  packed 16 subSatU p rd rs1 rs2 s

/-- `psub.4.u` (R216). -/
def execPsub4U (p : Pred) (rd rs1 rs2 : Reg) (s : State) : Result :=
  packed 32 subSatU p rd rs1 rs2 s

/-- `psub.8.u` (R216). -/
def execPsub8U (p : Pred) (rd rs1 rs2 : Reg) (s : State) : Result :=
  packed 64 subSatU p rd rs1 rs2 s

/-- `psub.1.s` (R217). -/
def execPsub1S (p : Pred) (rd rs1 rs2 : Reg) (s : State) : Result :=
  packed 8 subSatS p rd rs1 rs2 s

/-- `psub.2.s` (R217). -/
def execPsub2S (p : Pred) (rd rs1 rs2 : Reg) (s : State) : Result :=
  packed 16 subSatS p rd rs1 rs2 s

/-- `psub.4.s` (R217). -/
def execPsub4S (p : Pred) (rd rs1 rs2 : Reg) (s : State) : Result :=
  packed 32 subSatS p rd rs1 rs2 s

/-- `psub.8.s` (R217). -/
def execPsub8S (p : Pred) (rd rs1 rs2 : Reg) (s : State) : Result :=
  packed 64 subSatS p rd rs1 rs2 s

/-- `psubdecr.1` (R218). -/
def execPsubdecr1 (p : Pred) (rd rs1 rs2 : Reg) (s : State) : Result :=
  packed 8 subDecr p rd rs1 rs2 s

/-- `psubdecr.2` (R218). -/
def execPsubdecr2 (p : Pred) (rd rs1 rs2 : Reg) (s : State) : Result :=
  packed 16 subDecr p rd rs1 rs2 s

/-- `psubdecr.4` (R218). -/
def execPsubdecr4 (p : Pred) (rd rs1 rs2 : Reg) (s : State) : Result :=
  packed 32 subDecr p rd rs1 rs2 s

/-- `psubdecr.8` (R218). -/
def execPsubdecr8 (p : Pred) (rd rs1 rs2 : Reg) (s : State) : Result :=
  packed 64 subDecr p rd rs1 rs2 s

/-- `pavg.1` (R219). -/
def execPavg1 (p : Pred) (rd rs1 rs2 : Reg) (s : State) : Result :=
  packed 8 average p rd rs1 rs2 s

/-- `pavg.2` (R219). -/
def execPavg2 (p : Pred) (rd rs1 rs2 : Reg) (s : State) : Result :=
  packed 16 average p rd rs1 rs2 s

/-- `pavg.1.raz` (R220). -/
def execPavg1Raz (p : Pred) (rd rs1 rs2 : Reg) (s : State) : Result :=
  packed 8 averageRaz p rd rs1 rs2 s

/-- `pavg.2.raz` (R220). -/
def execPavg2Raz (p : Pred) (rd rs1 rs2 : Reg) (s : State) : Result :=
  packed 16 averageRaz p rd rs1 rs2 s

/-- `psubavg.1` (R221). -/
def execPsubavg1 (p : Pred) (rd rs1 rs2 : Reg) (s : State) : Result :=
  packed 8 (subAverage s.cfg.subAvgTop) p rd rs1 rs2 s

/-- `psubavg.2` (R221). -/
def execPsubavg2 (p : Pred) (rd rs1 rs2 : Reg) (s : State) : Result :=
  packed 16 (subAverage s.cfg.subAvgTop) p rd rs1 rs2 s

/-- `pcmp.1.eq` (R227). -/
def execPcmp1Eq (p : Pred) (rd rs1 rs2 : Reg) (s : State) : Result :=
  packed 8 maskEq p rd rs1 rs2 s

/-- `pcmp.2.eq` (R227). -/
def execPcmp2Eq (p : Pred) (rd rs1 rs2 : Reg) (s : State) : Result :=
  packed 16 maskEq p rd rs1 rs2 s

/-- `pcmp.4.eq` (R227). -/
def execPcmp4Eq (p : Pred) (rd rs1 rs2 : Reg) (s : State) : Result :=
  packed 32 maskEq p rd rs1 rs2 s

/-- `pcmp.8.eq` (R227). -/
def execPcmp8Eq (p : Pred) (rd rs1 rs2 : Reg) (s : State) : Result :=
  packed 64 maskEq p rd rs1 rs2 s

/-- `pcmp.1.gt` (R228). -/
def execPcmp1Gt (p : Pred) (rd rs1 rs2 : Reg) (s : State) : Result :=
  packed 8 maskGt p rd rs1 rs2 s

/-- `pcmp.2.gt` (R228). -/
def execPcmp2Gt (p : Pred) (rd rs1 rs2 : Reg) (s : State) : Result :=
  packed 16 maskGt p rd rs1 rs2 s

/-- `pcmp.4.gt` (R228). -/
def execPcmp4Gt (p : Pred) (rd rs1 rs2 : Reg) (s : State) : Result :=
  packed 32 maskGt p rd rs1 rs2 s

/-- `pcmp.8.gt` (R228). -/
def execPcmp8Gt (p : Pred) (rd rs1 rs2 : Reg) (s : State) : Result :=
  packed 64 maskGt p rd rs1 rs2 s

/-- `pmax.1` (R229). -/
def execPmax1 (p : Pred) (rd rs1 rs2 : Reg) (s : State) : Result :=
  packed 8 maxS p rd rs1 rs2 s

/-- `pmax.2` (R229). -/
def execPmax2 (p : Pred) (rd rs1 rs2 : Reg) (s : State) : Result :=
  packed 16 maxS p rd rs1 rs2 s

/-- `pmin.1` (R230). -/
def execPmin1 (p : Pred) (rd rs1 rs2 : Reg) (s : State) : Result :=
  packed 8 minS p rd rs1 rs2 s

/-- `pmin.2` (R230). -/
def execPmin2 (p : Pred) (rd rs1 rs2 : Reg) (s : State) : Result :=
  packed 16 minS p rd rs1 rs2 s

/-- `pshiftadd.1.l` (R231). -/
def execPshiftadd1L (p : Pred) (rd rs1 rs2 : Reg) (s : State) : Result :=
  packed 16 (shiftLeftAdd s.cfg.shiftAddShift 1) p rd rs1 rs2 s

/-- `pshiftadd.2.l` (R231). -/
def execPshiftadd2L (p : Pred) (rd rs1 rs2 : Reg) (s : State) : Result :=
  packed 16 (shiftLeftAdd s.cfg.shiftAddShift 2) p rd rs1 rs2 s

/-- `pshiftadd.3.l` (R231). -/
def execPshiftadd3L (p : Pred) (rd rs1 rs2 : Reg) (s : State) : Result :=
  packed 16 (shiftLeftAdd s.cfg.shiftAddShift 3) p rd rs1 rs2 s

/-- `pshiftadd.1.r` (R232). -/
def execPshiftadd1R (p : Pred) (rd rs1 rs2 : Reg) (s : State) : Result :=
  packed 16 (shiftRightAdd 1) p rd rs1 rs2 s

/-- `pshiftadd.2.r` (R232). -/
def execPshiftadd2R (p : Pred) (rd rs1 rs2 : Reg) (s : State) : Result :=
  packed 16 (shiftRightAdd 2) p rd rs1 rs2 s

/-- `pshiftadd.3.r` (R232). -/
def execPshiftadd3R (p : Pred) (rd rs1 rs2 : Reg) (s : State) : Result :=
  packed 16 (shiftRightAdd 3) p rd rs1 rs2 s

end Sys2Proof.Machine
end

