-- ==== Sys2Proof/Machine/PackedMultiply.lean ====
section
/-! DEFINITION. Packed multiply (46_multiply_packed.md): 16-bit subwords only, exact 32-bit products (R250). -/

namespace Sys2Proof.Machine
open Sys2Proof

/-- R251, R252: the exact signed product of 16-bit lane 2j+odd of both sources fills 32-bit lane j of Rd. -/
def mulLanes {N : Nat} (odd : Nat) (a b : BitVec N) : BitVec N :=
  ofLanes N 32
    (fun j => BitVec.ofInt 32 ((lane 16 a (2 * j + odd)).toInt * (lane 16 b (2 * j + odd)).toInt))
    (laneCount N 32)

/-- R253: the low 16 bits of the unsigned product shifted right logically. -/
def mulShiftU (sa : Nat) (a b : BitVec 16) : BitVec 16 :=
  (BitVec.ofNat 32 (a.toNat * b.toNat) >>> sa).setWidth 16

/-- R254: the low 16 bits of the signed product shifted right arithmetically. -/
def mulShiftS (sa : Nat) (a b : BitVec 16) : BitVec 16 :=
  ((BitVec.ofInt 32 (a.toInt * b.toInt)).sshiftRight sa).setWidth 16

/-- `pmul.odd` (R251): the upper half of each aligned 32-bit group. -/
def execPmulOdd (p : Pred) (rd rs1 rs2 : Reg) (s : State) : Result :=
  guarded p s (writeReg s rd (mulLanes 1 (s.reg s.xlen rs1) (s.reg s.xlen rs2)))

/-- `pmul.even` (R252): the lower half of each aligned 32-bit group. -/
def execPmulEven (p : Pred) (rd rs1 rs2 : Reg) (s : State) : Result :=
  guarded p s (writeReg s rd (mulLanes 0 (s.reg s.xlen rs1) (s.reg s.xlen rs2)))

/-- R253, R254: lanewise on 16-bit lanes. -/
def mulShift (f : BitVec 16 → BitVec 16 → BitVec 16) (p : Pred) (rd rs1 rs2 : Reg) (s : State) : Result :=
  guarded p s (writeReg s rd (zipLanes 16 f (s.reg s.xlen rs1) (s.reg s.xlen rs2)))

/-- `pmulshr.0` (R253). -/
def execPmulshr0 (p : Pred) (rd rs1 rs2 : Reg) (s : State) : Result :=
  mulShift (mulShiftU 0) p rd rs1 rs2 s

/-- `pmulshr.8` (R253). -/
def execPmulshr8 (p : Pred) (rd rs1 rs2 : Reg) (s : State) : Result :=
  mulShift (mulShiftU 8) p rd rs1 rs2 s

/-- `pmulshr.15` (R253). -/
def execPmulshr15 (p : Pred) (rd rs1 rs2 : Reg) (s : State) : Result :=
  mulShift (mulShiftU 15) p rd rs1 rs2 s

/-- `pmulshr.16` (R253). -/
def execPmulshr16 (p : Pred) (rd rs1 rs2 : Reg) (s : State) : Result :=
  mulShift (mulShiftU 16) p rd rs1 rs2 s

/-- `pmulshr.0.a` (R254). -/
def execPmulshr0A (p : Pred) (rd rs1 rs2 : Reg) (s : State) : Result :=
  mulShift (mulShiftS 0) p rd rs1 rs2 s

/-- `pmulshr.8.a` (R254). -/
def execPmulshr8A (p : Pred) (rd rs1 rs2 : Reg) (s : State) : Result :=
  mulShift (mulShiftS 8) p rd rs1 rs2 s

/-- `pmulshr.15.a` (R254). -/
def execPmulshr15A (p : Pred) (rd rs1 rs2 : Reg) (s : State) : Result :=
  mulShift (mulShiftS 15) p rd rs1 rs2 s

/-- `pmulshr.16.a` (R254). -/
def execPmulshr16A (p : Pred) (rd rs1 rs2 : Reg) (s : State) : Result :=
  mulShift (mulShiftS 16) p rd rs1 rs2 s

end Sys2Proof.Machine
end

