-- ==== Sys2Proof/Machine/PackedShift.lean ====
section
/-! DEFINITION. Packed shifts (47_shift_packed.md). -/

namespace Sys2Proof.Machine
open Sys2Proof

/-- The three shifts of a subword (R261 to R263): zeros enter for l and r, copies of the top bit for ra. -/
inductive LaneShift where
  | l
  | r
  | ra
deriving DecidableEq, Repr

/-- One subword shifted by k < w (R260). -/
def shiftLane {w : Nat} (d : LaneShift) (k : Nat) (a : BitVec w) : BitVec w :=
  match d with
  | .l => a <<< k
  | .r => a >>> k
  | .ra => a.sshiftRight k

/-- R260: every subword of Rs1 shifted by one amount; an amount of the subword width or more is given no meaning. -/
def shiftLanes (w : Nat) (d : LaneShift) (k : Nat) (rd rs1 : Reg) (s : State) : Result :=
  if w ≤ k then unspecified .packedShiftRange
  else writeReg s rd (mapLanes w (shiftLane d k) (s.reg s.xlen rs1))

/-- R260: the amount is "the whole XLEN-bit register as an unsigned number". -/
def packedShift (w : Nat) (d : LaneShift) (p : Pred) (rd rs1 rs2 : Reg) (s : State) : Result :=
  sized w s (guarded p s (shiftLanes w d (s.reg s.xlen rs2).toNat rd rs1 s))

/-- R260: the amount is imm5. -/
def packedShiftImm (w : Nat) (d : LaneShift) (p : Pred) (rd rs1 : Reg) (imm5 : BitVec 5) (s : State) : Result :=
  sized w s (guarded p s (shiftLanes w d imm5.toNat rd rs1 s))

/-- `pshift.2.l` (R261). -/
def execPshift2L (p : Pred) (rd rs1 rs2 : Reg) (s : State) : Result :=
  packedShift 16 .l p rd rs1 rs2 s

/-- `pshift.4.l` (R261). -/
def execPshift4L (p : Pred) (rd rs1 rs2 : Reg) (s : State) : Result :=
  packedShift 32 .l p rd rs1 rs2 s

/-- `pshift.8.l` (R261). -/
def execPshift8L (p : Pred) (rd rs1 rs2 : Reg) (s : State) : Result :=
  packedShift 64 .l p rd rs1 rs2 s

/-- `pshift.2.r` (R262). -/
def execPshift2R (p : Pred) (rd rs1 rs2 : Reg) (s : State) : Result :=
  packedShift 16 .r p rd rs1 rs2 s

/-- `pshift.4.r` (R262). -/
def execPshift4R (p : Pred) (rd rs1 rs2 : Reg) (s : State) : Result :=
  packedShift 32 .r p rd rs1 rs2 s

/-- `pshift.8.r` (R262). -/
def execPshift8R (p : Pred) (rd rs1 rs2 : Reg) (s : State) : Result :=
  packedShift 64 .r p rd rs1 rs2 s

/-- `pshift.2.ra` (R263). -/
def execPshift2Ra (p : Pred) (rd rs1 rs2 : Reg) (s : State) : Result :=
  packedShift 16 .ra p rd rs1 rs2 s

/-- `pshift.4.ra` (R263). -/
def execPshift4Ra (p : Pred) (rd rs1 rs2 : Reg) (s : State) : Result :=
  packedShift 32 .ra p rd rs1 rs2 s

/-- `pshift.8.ra` (R263). -/
def execPshift8Ra (p : Pred) (rd rs1 rs2 : Reg) (s : State) : Result :=
  packedShift 64 .ra p rd rs1 rs2 s

/-- `pshifti.2.l` (R264). -/
def execPshifti2L (p : Pred) (rd rs1 : Reg) (imm5 : BitVec 5) (s : State) : Result :=
  packedShiftImm 16 .l p rd rs1 imm5 s

/-- `pshifti.4.l` (R264). -/
def execPshifti4L (p : Pred) (rd rs1 : Reg) (imm5 : BitVec 5) (s : State) : Result :=
  packedShiftImm 32 .l p rd rs1 imm5 s

/-- `pshifti.8.l` (R264). -/
def execPshifti8L (p : Pred) (rd rs1 : Reg) (imm5 : BitVec 5) (s : State) : Result :=
  packedShiftImm 64 .l p rd rs1 imm5 s

/-- `pshifti.2.r` (R265). -/
def execPshifti2R (p : Pred) (rd rs1 : Reg) (imm5 : BitVec 5) (s : State) : Result :=
  packedShiftImm 16 .r p rd rs1 imm5 s

/-- `pshifti.4.r` (R265). -/
def execPshifti4R (p : Pred) (rd rs1 : Reg) (imm5 : BitVec 5) (s : State) : Result :=
  packedShiftImm 32 .r p rd rs1 imm5 s

/-- `pshifti.8.r` (R265). -/
def execPshifti8R (p : Pred) (rd rs1 : Reg) (imm5 : BitVec 5) (s : State) : Result :=
  packedShiftImm 64 .r p rd rs1 imm5 s

/-- `pshifti.2.ra` (R266). -/
def execPshifti2Ra (p : Pred) (rd rs1 : Reg) (imm5 : BitVec 5) (s : State) : Result :=
  packedShiftImm 16 .ra p rd rs1 imm5 s

/-- `pshifti.4.ra` (R266). -/
def execPshifti4Ra (p : Pred) (rd rs1 : Reg) (imm5 : BitVec 5) (s : State) : Result :=
  packedShiftImm 32 .ra p rd rs1 imm5 s

/-- `pshifti.8.ra` (R266). -/
def execPshifti8Ra (p : Pred) (rd rs1 : Reg) (imm5 : BitVec 5) (s : State) : Result :=
  packedShiftImm 64 .ra p rd rs1 imm5 s

end Sys2Proof.Machine
end

