-- ==== Sys2Proof/Machine/Permute.lean ====
section
/-! DEFINITION. Subword permutation (48_subword_permutation.md). Ordinals count subwords from 1 at the left (R270). -/

namespace Sys2Proof.Machine
open Sys2Proof

/-- R271: the result is `[A1 B1 A3 B3 ...]`. -/
def mixLeft {N : Nat} (w : Nat) (a b : BitVec N) : BitVec N :=
  ofOrds N w (fun i => if i % 2 = 1 then ord w a i else ord w b (i - 1))

/-- R272: the result is `[A2 B2 A4 B4 ...]`. -/
def mixRight {N : Nat} (w : Nat) (a b : BitVec N) : BitVec N :=
  ofOrds N w (fun i => if i % 2 = 1 then ord w a (i + 1) else ord w b i)

/-- mix.sw needs two subwords, `16·sw ≤ XLEN` (30_encoding.md R105). -/
def mix (w : Nat) (left : Bool) (p : Pred) (rd rs1 rs2 : Reg) (s : State) : Result :=
  sized (2 * w) s <| guarded p s <| writeReg s rd <|
    if left then mixLeft w (s.reg s.xlen rs1) (s.reg s.xlen rs2)
    else mixRight w (s.reg s.xlen rs1) (s.reg s.xlen rs2)

/-- R278: each result byte, from the left, receives the source byte whose ordinal the table gives. -/
def permuteBytes {N : Nat} (table : List Nat) (a : BitVec N) : BitVec N :=
  ofOrds N 8 (fun i => ord 8 a (table.getD (i - 1) 0))

/-- R273: "Mux.rev reverses the order of the bytes of Rs1." -/
def reverseBytes {N : Nat} (a : BitVec N) : BitVec N :=
  ofLanes N 8 (fun k => lane 8 a (laneCount N 8 - 1 - k)) (laneCount N 8)

/-- R277: "the least-significant subword of Rs1 to all subwords of Rd". -/
def broadcastByte {N : Nat} (a : BitVec N) : BitVec N := ofLanes N 8 (fun _ => lane 8 a 0) (laneCount N 8)

/-- `mux.rev` (R273). -/
def execMuxRev (p : Pred) (rd rs1 : Reg) (s : State) : Result :=
  guarded p s (writeReg s rd (reverseBytes (s.reg s.xlen rs1)))

/-- `mux.mix` (R274), by MUX_TABLE (log 27). -/
def execMuxMix (p : Pred) (rd rs1 : Reg) (s : State) : Result :=
  guarded p s (writeReg s rd (permuteBytes s.cfg.muxTable.mix (s.reg s.xlen rs1)))

/-- `mux.shuf` (R275), by MUX_TABLE (log 27). -/
def execMuxShuf (p : Pred) (rd rs1 : Reg) (s : State) : Result :=
  guarded p s (writeReg s rd (permuteBytes s.cfg.muxTable.shuf (s.reg s.xlen rs1)))

/-- `mux.alt` (R276), by MUX_TABLE (log 27). -/
def execMuxAlt (p : Pred) (rd rs1 : Reg) (s : State) : Result :=
  guarded p s (writeReg s rd (permuteBytes s.cfg.muxTable.alt (s.reg s.xlen rs1)))

/-- `mux.brcst` (R277). -/
def execMuxBrcst (p : Pred) (rd rs1 : Reg) (s : State) : Result :=
  guarded p s (writeReg s rd (broadcastByte (s.reg s.xlen rs1)))

/-- The j-th selector group of the control register, counted from 1 at the left: log2 n bits of its low n·log2 n
(R280). -/
def permSelector {N : Nat} (c : BitVec N) (j : Nat) : Nat :=
  let n := laneCount N 16
  let g := Nat.log2 n
  (c.extractLsb' (g * (n - j)) g).toNat

/-- R280: result subword i from the left receives the source subword its selector names, under PERM_LAYOUT (log 26). -/
def permute {N : Nat} (l : PermLayout) (a c : BitVec N) : BitVec N :=
  let n := laneCount N 16
  ofOrds N 16 (fun i =>
    let sel := permSelector c (match l.selectors with | .left => i | .right => n + 1 - i)
    ord 16 a (match l.counting with | .left => sel + 1 | .right => n - sel))

/-- `perm` (R280). -/
def execPerm (p : Pred) (rd rs1 rs2 : Reg) (s : State) : Result :=
  guarded p s (writeReg s rd (permute s.cfg.permLayout (s.reg s.xlen rs1) (s.reg s.xlen rs2)))

/-- `mix.1.l` (R271). -/
def execMix1L (p : Pred) (rd rs1 rs2 : Reg) (s : State) : Result :=
  mix 8 true p rd rs1 rs2 s

/-- `mix.2.l` (R271). -/
def execMix2L (p : Pred) (rd rs1 rs2 : Reg) (s : State) : Result :=
  mix 16 true p rd rs1 rs2 s

/-- `mix.4.l` (R271). -/
def execMix4L (p : Pred) (rd rs1 rs2 : Reg) (s : State) : Result :=
  mix 32 true p rd rs1 rs2 s

/-- `mix.1.r` (R272). -/
def execMix1R (p : Pred) (rd rs1 rs2 : Reg) (s : State) : Result :=
  mix 8 false p rd rs1 rs2 s

/-- `mix.2.r` (R272). -/
def execMix2R (p : Pred) (rd rs1 rs2 : Reg) (s : State) : Result :=
  mix 16 false p rd rs1 rs2 s

/-- `mix.4.r` (R272). -/
def execMix4R (p : Pred) (rd rs1 rs2 : Reg) (s : State) : Result :=
  mix 32 false p rd rs1 rs2 s

end Sys2Proof.Machine
end

