-- ==== Sys2Proof/Machine/ShiftBitfield.lean ====
section
/-! DEFINITION. Scalar shifts and bit fields (44_shift_bitfield.md). They act on the whole register and write no flag. -/

namespace Sys2Proof.Machine
open Sys2Proof

/-- R190: the amount of slli, srli and srai is imm13 modulo XLEN, and imm13 = XLEN exactly is given no meaning. -/
def scalarShift (p : Pred) (rd rs1 : Reg) (imm13 : BitVec 13) (s : State)
    (f : BitVec s.xlen → Nat → BitVec s.xlen) : Result :=
  guarded p s
    (if imm13.toNat = s.xlen then unspecified .shiftByXlen
     else writeReg s rd (f (s.reg s.xlen rs1) (imm13.toNat % s.xlen)))

/-- R191: "The vacated bits are filled with zeroes." -/
def execSlli (p : Pred) (rd rs1 : Reg) (imm13 : BitVec 13) (s : State) : Result :=
  scalarShift p rd rs1 imm13 s (fun a k => a <<< k)

/-- R193: logical right shift. -/
def execSrli (p : Pred) (rd rs1 : Reg) (imm13 : BitVec 13) (s : State) : Result :=
  scalarShift p rd rs1 imm13 s (fun a k => a >>> k)

/-- R192: "The vacated bits are filled with the sign bit." -/
def execSrai (p : Pred) (rd rs1 : Reg) (imm13 : BitVec 13) (s : State) : Result :=
  scalarShift p rd rs1 imm13 s (fun a k => a.sshiftRight k)

/-- R194: the low half of `Rs1 ∥ Rs2` shifted right by imm8 modulo 2·XLEN. -/
def execShrp (p : Pred) (rd rs1 rs2 : Reg) (imm8 : BitVec 8) (s : State) : Result :=
  guarded p s
    (writeReg s rd
      (((s.reg s.xlen rs1 ++ s.reg s.xlen rs2) >>> (imm8.toNat % (2 * s.xlen))).setWidth s.xlen))

/-- A field of length 0 or past bit XLEN-1 is given no meaning (R195, R196). -/
def fieldOutOfRange (N : Nat) (imm7 : BitVec 7) (imm6 : BitVec 6) : Bool :=
  decide (imm6.toNat = 0) || decide (N < imm7.toNat + imm6.toNat)

/-- R195: the field of length imm6 from bit imm7, "written right-aligned to Rd. High order bits of Rd are cleared." -/
def execExtract (p : Pred) (rd rs1 : Reg) (imm7 : BitVec 7) (imm6 : BitVec 6) (s : State) : Result :=
  guarded p s
    (if fieldOutOfRange s.xlen imm7 imm6 then unspecified .bitfieldRange
     else writeReg s rd (extractBits (s.reg s.xlen rs1) imm7.toNat imm6.toNat))

/-- R196: the low imm6 bits of Rs1 replace those of Rd from bit imm7; "Remaining bits of Rd are unchanged." -/
def execDeposit (p : Pred) (rd rs1 : Reg) (imm7 : BitVec 7) (imm6 : BitVec 6) (s : State) : Result :=
  guarded p s
    (if fieldOutOfRange s.xlen imm7 imm6 then unspecified .bitfieldRange
     else writeReg s rd (depositBits (s.reg s.xlen rd) (s.reg s.xlen rs1) imm7.toNat imm6.toNat))

end Sys2Proof.Machine
end

