-- ==== Sys2Proof/Machine/Dispatch.lean ====
section
/-! DEFINITION. One arm per instruction: its meaning, in the table's order. -/

namespace Sys2Proof.Machine
open Sys2Proof

/-- The execution of one instruction term, guard included (10_state.md R25 steps 4 and 5). -/
def exec (i : Instr) (s : State) : Host.Outcome State Fault Refusal :=
  match i with
  | .jmp p imm23 => Sys2Proof.Machine.execJmp p imm23 s
  | .jmpLink p imm23 => Sys2Proof.Machine.execJmpLink p imm23 s
  | .trap p => Sys2Proof.Machine.execTrap p s
  | .jmpReg p rd => Sys2Proof.Machine.execJmpReg p rd s
  | .jmpRegLink p rd => Sys2Proof.Machine.execJmpRegLink p rd s
  | .loadiHi p rd imm16 => Sys2Proof.Machine.execLoadiHi p rd imm16 s
  | .loadiLo p rd imm16 => Sys2Proof.Machine.execLoadiLo p rd imm16 s
  | .cmpEq p rs1 rs2 pa pb => Sys2Proof.Machine.execCmpEq p rs1 rs2 pa pb s
  | .cmpNe p rs1 rs2 pa pb => Sys2Proof.Machine.execCmpNe p rs1 rs2 pa pb s
  | .cmpLt p rs1 rs2 pa pb => Sys2Proof.Machine.execCmpLt p rs1 rs2 pa pb s
  | .cmpLe p rs1 rs2 pa pb => Sys2Proof.Machine.execCmpLe p rs1 rs2 pa pb s
  | .cmpGt p rs1 rs2 pa pb => Sys2Proof.Machine.execCmpGt p rs1 rs2 pa pb s
  | .cmpGe p rs1 rs2 pa pb => Sys2Proof.Machine.execCmpGe p rs1 rs2 pa pb s
  | .cmpLtu p rs1 rs2 pa pb => Sys2Proof.Machine.execCmpLtu p rs1 rs2 pa pb s
  | .cmpLeu p rs1 rs2 pa pb => Sys2Proof.Machine.execCmpLeu p rs1 rs2 pa pb s
  | .cmpGtu p rs1 rs2 pa pb => Sys2Proof.Machine.execCmpGtu p rs1 rs2 pa pb s
  | .cmpGeu p rs1 rs2 pa pb => Sys2Proof.Machine.execCmpGeu p rs1 rs2 pa pb s
  | .cmpiEq p rs1 imm8 pa pb => Sys2Proof.Machine.execCmpiEq p rs1 imm8 pa pb s
  | .cmpiNe p rs1 imm8 pa pb => Sys2Proof.Machine.execCmpiNe p rs1 imm8 pa pb s
  | .cmpiLt p rs1 imm8 pa pb => Sys2Proof.Machine.execCmpiLt p rs1 imm8 pa pb s
  | .cmpiLe p rs1 imm8 pa pb => Sys2Proof.Machine.execCmpiLe p rs1 imm8 pa pb s
  | .cmpiGt p rs1 imm8 pa pb => Sys2Proof.Machine.execCmpiGt p rs1 imm8 pa pb s
  | .cmpiGe p rs1 imm8 pa pb => Sys2Proof.Machine.execCmpiGe p rs1 imm8 pa pb s
  | .cmpiLtu p rs1 imm8 pa pb => Sys2Proof.Machine.execCmpiLtu p rs1 imm8 pa pb s
  | .cmpiLeu p rs1 imm8 pa pb => Sys2Proof.Machine.execCmpiLeu p rs1 imm8 pa pb s
  | .cmpiGtu p rs1 imm8 pa pb => Sys2Proof.Machine.execCmpiGtu p rs1 imm8 pa pb s
  | .cmpiGeu p rs1 imm8 pa pb => Sys2Proof.Machine.execCmpiGeu p rs1 imm8 pa pb s
  | .testbit p rd imm8 pa pb => Sys2Proof.Machine.execTestbit p rd imm8 pa pb s
  | .changepr p imm4 => Sys2Proof.Machine.execChangepr p imm4 s
  | .changeprLd p imm4 imm8 => Sys2Proof.Machine.execChangeprLd p imm4 imm8 s
  | .mix1L p rd rs1 rs2 => Sys2Proof.Machine.execMix1L p rd rs1 rs2 s
  | .mix2L p rd rs1 rs2 => Sys2Proof.Machine.execMix2L p rd rs1 rs2 s
  | .mix4L p rd rs1 rs2 => Sys2Proof.Machine.execMix4L p rd rs1 rs2 s
  | .mix1R p rd rs1 rs2 => Sys2Proof.Machine.execMix1R p rd rs1 rs2 s
  | .mix2R p rd rs1 rs2 => Sys2Proof.Machine.execMix2R p rd rs1 rs2 s
  | .mix4R p rd rs1 rs2 => Sys2Proof.Machine.execMix4R p rd rs1 rs2 s
  | .muxRev p rd rs1 => Sys2Proof.Machine.execMuxRev p rd rs1 s
  | .muxMix p rd rs1 => Sys2Proof.Machine.execMuxMix p rd rs1 s
  | .muxShuf p rd rs1 => Sys2Proof.Machine.execMuxShuf p rd rs1 s
  | .muxAlt p rd rs1 => Sys2Proof.Machine.execMuxAlt p rd rs1 s
  | .muxBrcst p rd rs1 => Sys2Proof.Machine.execMuxBrcst p rd rs1 s
  | .perm p rd rs1 rs2 => Sys2Proof.Machine.execPerm p rd rs1 rs2 s
  | .load1 p rd rs1 imm13 => Sys2Proof.Machine.execLoad1 p rd rs1 imm13 s
  | .load2 p rd rs1 imm13 => Sys2Proof.Machine.execLoad2 p rd rs1 imm13 s
  | .load4 p rd rs1 imm13 => Sys2Proof.Machine.execLoad4 p rd rs1 imm13 s
  | .load8 p rd rs1 imm13 => Sys2Proof.Machine.execLoad8 p rd rs1 imm13 s
  | .load1Update p rd rs1 imm13 => Sys2Proof.Machine.execLoad1Update p rd rs1 imm13 s
  | .load2Update p rd rs1 imm13 => Sys2Proof.Machine.execLoad2Update p rd rs1 imm13 s
  | .load4Update p rd rs1 imm13 => Sys2Proof.Machine.execLoad4Update p rd rs1 imm13 s
  | .load8Update p rd rs1 imm13 => Sys2Proof.Machine.execLoad8Update p rd rs1 imm13 s
  | .store1 p rd rs1 imm13 => Sys2Proof.Machine.execStore1 p rd rs1 imm13 s
  | .store2 p rd rs1 imm13 => Sys2Proof.Machine.execStore2 p rd rs1 imm13 s
  | .store4 p rd rs1 imm13 => Sys2Proof.Machine.execStore4 p rd rs1 imm13 s
  | .store8 p rd rs1 imm13 => Sys2Proof.Machine.execStore8 p rd rs1 imm13 s
  | .store1Update p rd rs1 imm13 => Sys2Proof.Machine.execStore1Update p rd rs1 imm13 s
  | .store2Update p rd rs1 imm13 => Sys2Proof.Machine.execStore2Update p rd rs1 imm13 s
  | .store4Update p rd rs1 imm13 => Sys2Proof.Machine.execStore4Update p rd rs1 imm13 s
  | .store8Update p rd rs1 imm13 => Sys2Proof.Machine.execStore8Update p rd rs1 imm13 s
  | .addi p rd rs1 imm13 => Sys2Proof.Machine.execAddi p rd rs1 imm13 s
  | .subi p rd rs1 imm13 => Sys2Proof.Machine.execSubi p rd rs1 imm13 s
  | .andi p rd rs1 imm13 => Sys2Proof.Machine.execAndi p rd rs1 imm13 s
  | .ori p rd rs1 imm13 => Sys2Proof.Machine.execOri p rd rs1 imm13 s
  | .xori p rd rs1 imm13 => Sys2Proof.Machine.execXori p rd rs1 imm13 s
  | .slli p rd rs1 imm13 => Sys2Proof.Machine.execSlli p rd rs1 imm13 s
  | .srli p rd rs1 imm13 => Sys2Proof.Machine.execSrli p rd rs1 imm13 s
  | .srai p rd rs1 imm13 => Sys2Proof.Machine.execSrai p rd rs1 imm13 s
  | .shrp p rd rs1 rs2 imm8 => Sys2Proof.Machine.execShrp p rd rs1 rs2 imm8 s
  | .extract p rd rs1 imm7 imm6 => Sys2Proof.Machine.execExtract p rd rs1 imm7 imm6 s
  | .deposit p rd rs1 imm7 imm6 => Sys2Proof.Machine.execDeposit p rd rs1 imm7 imm6 s
  | .padd1 p rd rs1 rs2 => Sys2Proof.Machine.execPadd1 p rd rs1 rs2 s
  | .padd2 p rd rs1 rs2 => Sys2Proof.Machine.execPadd2 p rd rs1 rs2 s
  | .padd4 p rd rs1 rs2 => Sys2Proof.Machine.execPadd4 p rd rs1 rs2 s
  | .padd8 p rd rs1 rs2 => Sys2Proof.Machine.execPadd8 p rd rs1 rs2 s
  | .padd1U p rd rs1 rs2 => Sys2Proof.Machine.execPadd1U p rd rs1 rs2 s
  | .padd2U p rd rs1 rs2 => Sys2Proof.Machine.execPadd2U p rd rs1 rs2 s
  | .padd4U p rd rs1 rs2 => Sys2Proof.Machine.execPadd4U p rd rs1 rs2 s
  | .padd8U p rd rs1 rs2 => Sys2Proof.Machine.execPadd8U p rd rs1 rs2 s
  | .padd1S p rd rs1 rs2 => Sys2Proof.Machine.execPadd1S p rd rs1 rs2 s
  | .padd2S p rd rs1 rs2 => Sys2Proof.Machine.execPadd2S p rd rs1 rs2 s
  | .padd4S p rd rs1 rs2 => Sys2Proof.Machine.execPadd4S p rd rs1 rs2 s
  | .padd8S p rd rs1 rs2 => Sys2Proof.Machine.execPadd8S p rd rs1 rs2 s
  | .paddincr1 p rd rs1 rs2 => Sys2Proof.Machine.execPaddincr1 p rd rs1 rs2 s
  | .paddincr2 p rd rs1 rs2 => Sys2Proof.Machine.execPaddincr2 p rd rs1 rs2 s
  | .paddincr4 p rd rs1 rs2 => Sys2Proof.Machine.execPaddincr4 p rd rs1 rs2 s
  | .paddincr8 p rd rs1 rs2 => Sys2Proof.Machine.execPaddincr8 p rd rs1 rs2 s
  | .psub1 p rd rs1 rs2 => Sys2Proof.Machine.execPsub1 p rd rs1 rs2 s
  | .psub2 p rd rs1 rs2 => Sys2Proof.Machine.execPsub2 p rd rs1 rs2 s
  | .psub4 p rd rs1 rs2 => Sys2Proof.Machine.execPsub4 p rd rs1 rs2 s
  | .psub8 p rd rs1 rs2 => Sys2Proof.Machine.execPsub8 p rd rs1 rs2 s
  | .psub1U p rd rs1 rs2 => Sys2Proof.Machine.execPsub1U p rd rs1 rs2 s
  | .psub2U p rd rs1 rs2 => Sys2Proof.Machine.execPsub2U p rd rs1 rs2 s
  | .psub4U p rd rs1 rs2 => Sys2Proof.Machine.execPsub4U p rd rs1 rs2 s
  | .psub8U p rd rs1 rs2 => Sys2Proof.Machine.execPsub8U p rd rs1 rs2 s
  | .psub1S p rd rs1 rs2 => Sys2Proof.Machine.execPsub1S p rd rs1 rs2 s
  | .psub2S p rd rs1 rs2 => Sys2Proof.Machine.execPsub2S p rd rs1 rs2 s
  | .psub4S p rd rs1 rs2 => Sys2Proof.Machine.execPsub4S p rd rs1 rs2 s
  | .psub8S p rd rs1 rs2 => Sys2Proof.Machine.execPsub8S p rd rs1 rs2 s
  | .psubdecr1 p rd rs1 rs2 => Sys2Proof.Machine.execPsubdecr1 p rd rs1 rs2 s
  | .psubdecr2 p rd rs1 rs2 => Sys2Proof.Machine.execPsubdecr2 p rd rs1 rs2 s
  | .psubdecr4 p rd rs1 rs2 => Sys2Proof.Machine.execPsubdecr4 p rd rs1 rs2 s
  | .psubdecr8 p rd rs1 rs2 => Sys2Proof.Machine.execPsubdecr8 p rd rs1 rs2 s
  | .pavg1 p rd rs1 rs2 => Sys2Proof.Machine.execPavg1 p rd rs1 rs2 s
  | .pavg2 p rd rs1 rs2 => Sys2Proof.Machine.execPavg2 p rd rs1 rs2 s
  | .pavg1Raz p rd rs1 rs2 => Sys2Proof.Machine.execPavg1Raz p rd rs1 rs2 s
  | .pavg2Raz p rd rs1 rs2 => Sys2Proof.Machine.execPavg2Raz p rd rs1 rs2 s
  | .psubavg1 p rd rs1 rs2 => Sys2Proof.Machine.execPsubavg1 p rd rs1 rs2 s
  | .psubavg2 p rd rs1 rs2 => Sys2Proof.Machine.execPsubavg2 p rd rs1 rs2 s
  | .andReg p rd rs1 rs2 => Sys2Proof.Machine.execAndReg p rd rs1 rs2 s
  | .andcm p rd rs1 rs2 => Sys2Proof.Machine.execAndcm p rd rs1 rs2 s
  | .orReg p rd rs1 rs2 => Sys2Proof.Machine.execOrReg p rd rs1 rs2 s
  | .xorReg p rd rs1 rs2 => Sys2Proof.Machine.execXorReg p rd rs1 rs2 s
  | .notReg p rd rs1 => Sys2Proof.Machine.execNotReg p rd rs1 s
  | .pcmp1Eq p rd rs1 rs2 => Sys2Proof.Machine.execPcmp1Eq p rd rs1 rs2 s
  | .pcmp2Eq p rd rs1 rs2 => Sys2Proof.Machine.execPcmp2Eq p rd rs1 rs2 s
  | .pcmp4Eq p rd rs1 rs2 => Sys2Proof.Machine.execPcmp4Eq p rd rs1 rs2 s
  | .pcmp8Eq p rd rs1 rs2 => Sys2Proof.Machine.execPcmp8Eq p rd rs1 rs2 s
  | .pcmp1Gt p rd rs1 rs2 => Sys2Proof.Machine.execPcmp1Gt p rd rs1 rs2 s
  | .pcmp2Gt p rd rs1 rs2 => Sys2Proof.Machine.execPcmp2Gt p rd rs1 rs2 s
  | .pcmp4Gt p rd rs1 rs2 => Sys2Proof.Machine.execPcmp4Gt p rd rs1 rs2 s
  | .pcmp8Gt p rd rs1 rs2 => Sys2Proof.Machine.execPcmp8Gt p rd rs1 rs2 s
  | .pmax1 p rd rs1 rs2 => Sys2Proof.Machine.execPmax1 p rd rs1 rs2 s
  | .pmax2 p rd rs1 rs2 => Sys2Proof.Machine.execPmax2 p rd rs1 rs2 s
  | .pmin1 p rd rs1 rs2 => Sys2Proof.Machine.execPmin1 p rd rs1 rs2 s
  | .pmin2 p rd rs1 rs2 => Sys2Proof.Machine.execPmin2 p rd rs1 rs2 s
  | .pshiftadd1L p rd rs1 rs2 => Sys2Proof.Machine.execPshiftadd1L p rd rs1 rs2 s
  | .pshiftadd2L p rd rs1 rs2 => Sys2Proof.Machine.execPshiftadd2L p rd rs1 rs2 s
  | .pshiftadd3L p rd rs1 rs2 => Sys2Proof.Machine.execPshiftadd3L p rd rs1 rs2 s
  | .pshiftadd1R p rd rs1 rs2 => Sys2Proof.Machine.execPshiftadd1R p rd rs1 rs2 s
  | .pshiftadd2R p rd rs1 rs2 => Sys2Proof.Machine.execPshiftadd2R p rd rs1 rs2 s
  | .pshiftadd3R p rd rs1 rs2 => Sys2Proof.Machine.execPshiftadd3R p rd rs1 rs2 s
  | .pmulOdd p rd rs1 rs2 => Sys2Proof.Machine.execPmulOdd p rd rs1 rs2 s
  | .pmulEven p rd rs1 rs2 => Sys2Proof.Machine.execPmulEven p rd rs1 rs2 s
  | .pmulshr0 p rd rs1 rs2 => Sys2Proof.Machine.execPmulshr0 p rd rs1 rs2 s
  | .pmulshr8 p rd rs1 rs2 => Sys2Proof.Machine.execPmulshr8 p rd rs1 rs2 s
  | .pmulshr15 p rd rs1 rs2 => Sys2Proof.Machine.execPmulshr15 p rd rs1 rs2 s
  | .pmulshr16 p rd rs1 rs2 => Sys2Proof.Machine.execPmulshr16 p rd rs1 rs2 s
  | .pmulshr0A p rd rs1 rs2 => Sys2Proof.Machine.execPmulshr0A p rd rs1 rs2 s
  | .pmulshr8A p rd rs1 rs2 => Sys2Proof.Machine.execPmulshr8A p rd rs1 rs2 s
  | .pmulshr15A p rd rs1 rs2 => Sys2Proof.Machine.execPmulshr15A p rd rs1 rs2 s
  | .pmulshr16A p rd rs1 rs2 => Sys2Proof.Machine.execPmulshr16A p rd rs1 rs2 s
  | .pshift2L p rd rs1 rs2 => Sys2Proof.Machine.execPshift2L p rd rs1 rs2 s
  | .pshift4L p rd rs1 rs2 => Sys2Proof.Machine.execPshift4L p rd rs1 rs2 s
  | .pshift8L p rd rs1 rs2 => Sys2Proof.Machine.execPshift8L p rd rs1 rs2 s
  | .pshift2R p rd rs1 rs2 => Sys2Proof.Machine.execPshift2R p rd rs1 rs2 s
  | .pshift4R p rd rs1 rs2 => Sys2Proof.Machine.execPshift4R p rd rs1 rs2 s
  | .pshift8R p rd rs1 rs2 => Sys2Proof.Machine.execPshift8R p rd rs1 rs2 s
  | .pshift2Ra p rd rs1 rs2 => Sys2Proof.Machine.execPshift2Ra p rd rs1 rs2 s
  | .pshift4Ra p rd rs1 rs2 => Sys2Proof.Machine.execPshift4Ra p rd rs1 rs2 s
  | .pshift8Ra p rd rs1 rs2 => Sys2Proof.Machine.execPshift8Ra p rd rs1 rs2 s
  | .pshifti2L p rd rs1 imm5 => Sys2Proof.Machine.execPshifti2L p rd rs1 imm5 s
  | .pshifti4L p rd rs1 imm5 => Sys2Proof.Machine.execPshifti4L p rd rs1 imm5 s
  | .pshifti8L p rd rs1 imm5 => Sys2Proof.Machine.execPshifti8L p rd rs1 imm5 s
  | .pshifti2R p rd rs1 imm5 => Sys2Proof.Machine.execPshifti2R p rd rs1 imm5 s
  | .pshifti4R p rd rs1 imm5 => Sys2Proof.Machine.execPshifti4R p rd rs1 imm5 s
  | .pshifti8R p rd rs1 imm5 => Sys2Proof.Machine.execPshifti8R p rd rs1 imm5 s
  | .pshifti2Ra p rd rs1 imm5 => Sys2Proof.Machine.execPshifti2Ra p rd rs1 imm5 s
  | .pshifti4Ra p rd rs1 imm5 => Sys2Proof.Machine.execPshifti4Ra p rd rs1 imm5 s
  | .pshifti8Ra p rd rs1 imm5 => Sys2Proof.Machine.execPshifti8Ra p rd rs1 imm5 s

end Sys2Proof.Machine
end

