-- ==== Sys2Proof/Machine/Fetch.lean ====
section
/-! DEFINITION. The front end of a step: 10_state.md R25 steps 1 to 3, and the placing of a word where a fetch finds
it. -/

namespace Sys2Proof.Machine
open Sys2Proof

/-- The pc as a byte address. -/
def State.pcAddr (s : State) : Nat := (s.pcv s.xlen).toNat

/-- `IFetch(pc)` (20_memory.md R62): alignment, then the map, then the word in BYTE_ORDER. A byte nothing has given a
value stops the fetch (log 57). -/
def fetchWord (s : State) : Except Fault IWord :=
  if s.pcAddr % 4 ≠ 0 then .error (.misalignedFetch s.pc)
  else match firstUnmapped s.cfg s.pcAddr 4 with
    | some a => .error (.accessFault a)
    | none => match firstUnwritten s s.pcAddr 4 with
      | some a => .error (.uninitialisedFetch a)
      | none => .ok (wordOfBytes s.cfg.byteOrder (s.loadBytes s.pcAddr 4))

/-- What a step is about to do. -/
inductive Fetched where
  /-- the machine is halted (10_state.md R34) -/
  | idle
  /-- steps 1 to 3 of R25 raised a fault -/
  | stop (f : Fault)
  /-- the decoded instruction is to be executed -/
  | run (i : Instr)
deriving DecidableEq, Repr

/-- 10_state.md R25 steps 1 to 3, decoding by the configuration's ENCODING (log 2): a reserved word is illegal "whatever
the guard" (60_exceptions.md R302). -/
def frontEnd (s : State) : Fetched :=
  if s.halted then .idle
  else match fetchWord s with
    | .error f => .stop f
    | .ok w => match decodeUnder s.cfg.encoding s.cfg.xlen w with
      | .error _ => .stop (.illegalInstruction w)
      | .ok i => .run i

/-- The state with a word stored at the pc in BYTE_ORDER, as a platform that loads a program stores it
(20_memory.md R62, 70_reset_and_hazards.md R332; log 59). -/
def placeWord (s : State) (w : IWord) : State :=
  { s with mem := Memory.writeBytes s.mem s.pcAddr (valueBytes s.cfg.byteOrder w 4) }

end Sys2Proof.Machine
end

