-- ==== Sys2Proof/Machine/Step.lean ====
section
/-! DEFINITION. One step of the processor (10_state.md R25). -/

namespace Sys2Proof.Machine
open Sys2Proof

/-- One step of the processor; `frontEnd` is steps 1 to 3 of R25 and `exec` the rest. -/
def step (s : State) : Host.Outcome State Fault Refusal :=
  match frontEnd s with
  | .idle => idle s
  | .stop f => .fault f
  | .run i => exec i s

/-- The state with a table word of nbits bits stored where the next step fetches its instruction (log 59). -/
def State.withFetchWord (s : State) (nbits w : Nat) : State := placeWord s (BitVec.ofNat 32 (w % 2 ^ nbits))

end Sys2Proof.Machine
end

