-- ==== Sys2Proof/Safety.lean ====
section
/-! DEFINITION. What claims say of a run: the invariant of the machine, the frame of an instruction, and how a run
ends (60_exceptions.md R300, R301). -/

namespace Sys2Proof.Machine
open Sys2Proof

/-! ### The invariant -/

/-- Memory is in its canonical form and lists only addresses of MEM_MAP (20_memory.md R59), R0's cell holds 0
(10_state.md R21), and the registers and the pc hold XLEN-bit values (10_state.md R21, R24). -/
abbrev State.Inv (s : State) : Prop :=
  Memory.wf s.mem = true
    ∧ (∀ c ∈ s.mem, s.cfg.mapped c.1 = true)
    ∧ s.gpr[0] = 0#64
    ∧ (∀ r : Reg, s.gpr[r.val].toNat < 2 ^ s.xlen)
    ∧ s.pc.toNat < 2 ^ s.xlen

/-! ### Frames -/

/-- Every general register outside the list reads as before. -/
def KeepsRegsBut (l : List Reg) (s t : State) : Prop := ∀ r : Reg, r ∉ l → t.reg s.xlen r = s.reg s.xlen r

/-- Every predicate register of every set, and the selector, are as before. -/
def KeepsPreds (s t : State) : Prop := t.ps = s.ps ∧ t.aps = s.aps

/-- Every byte of memory reads as before. -/
def KeepsMem (s t : State) : Prop := ∀ a : Nat, t.readByte a = s.readByte a

/-- Every byte of memory outside the n from `base` reads as before. -/
def KeepsMemOutside (base n : Nat) (s t : State) : Prop :=
  ∀ a : Nat, (a < base ∨ base + n ≤ a) → t.readByte a = s.readByte a

/-- The halted flag and the configuration are as before. -/
def KeepsRest (s t : State) : Prop := t.halted = s.halted ∧ t.cfg = s.cfg

/-- The pc has advanced by 4, modulo 2^XLEN (10_state.md R26, R27). -/
def AdvancesPc (s t : State) : Prop := t.pcv s.xlen = s.pcv s.xlen + 4#s.xlen

/-- The outcome is a next state in which only the pc has changed, advanced by 4: what a nullified instruction leaves
(10_state.md R31). -/
def OnlyAdvances (s : State) (o : Result) : Prop :=
  ∃ t, o = .next t ∧ KeepsRegsBut [] s t ∧ KeepsPreds s t ∧ KeepsMem s t ∧ KeepsRest s t ∧ AdvancesPc s t

/-- The outcome is a next state in which `rd` reads `v` (0 where rd is R0), nothing else has changed, and the pc has
advanced by 4. -/
def WritesOnly (s : State) (rd : Reg) (v : BitVec s.xlen) (o : Result) : Prop :=
  ∃ t, o = .next t ∧ t.reg s.xlen rd = (if rd = 0 then 0#s.xlen else v)
    ∧ KeepsRegsBut [rd] s t ∧ KeepsPreds s t ∧ KeepsMem s t ∧ KeepsRest s t ∧ AdvancesPc s t

/-- As `WritesOnly`, for a value each of whose w-bit lanes k satisfies `P k` (00_scope.md R8). -/
def WritesLanes (s : State) (rd : Reg) (w : Nat) (P : Nat → BitVec w → Prop) (o : Result) : Prop :=
  ∃ v : BitVec s.xlen, WritesOnly s rd v o ∧ ∀ k, k < s.xlen / w → P k (lane w v k)

/-- As `WritesLanes`, where R relates lane k of Rs1, lane k of Rs2 and lane k of the value written: a lanewise operation
(45_alu_packed.md R210). -/
def WritesPairs (s : State) (rd rs1 rs2 : Reg) (w : Nat) (R : BitVec w → BitVec w → BitVec w → Prop) (o : Result) :
    Prop :=
  WritesLanes s rd w (fun k v => R (lane w (s.reg s.xlen rs1) k) (lane w (s.reg s.xlen rs2) k) v) o

/-- As `WritesOnly`, for a value whose bit i is `B i`. -/
def WritesBits (s : State) (rd : Reg) (B : Nat → Bool) (o : Result) : Prop :=
  ∃ v : BitVec s.xlen, WritesOnly s rd v o ∧ ∀ i, i < s.xlen → v.getLsbD i = B i

/-- The outcome is a next state in which `pa` reads b and `pb` its complement (P0 reads 1 whatever is written), every
other predicate of the active set reads as before, every other set, the selector, the registers and memory are as
before, and the pc has advanced by 4 (41_compare_predication.md R142). -/
def WritesPredicates (s : State) (pa pb : Pred) (b : Bool) (o : Result) : Prop :=
  ∃ t, o = .next t
    ∧ (∀ i : Pred, t.pred i = if i = 0 then true else if i = pb then !b else if i = pa then b else s.pred i)
    ∧ t.aps = s.aps ∧ (∀ k : PredSet, k ≠ s.aps → t.ps[k.val] = s.ps[k.val])
    ∧ KeepsRegsBut [] s t ∧ KeepsMem s t ∧ KeepsRest s t ∧ AdvancesPc s t

/-- The outcome is a next state at `target`, with R31 holding pc + 4 where `link` holds, and nothing else changed
(40_flow_control.md R120 to R124). -/
def JumpsTo (s : State) (target : BitVec s.xlen) (link : Bool) (o : Result) : Prop :=
  ∃ t, o = .next t ∧ t.pcv s.xlen = target
    ∧ (if link then t.reg s.xlen 31 = s.pcv s.xlen + 4#s.xlen ∧ KeepsRegsBut [31] s t else KeepsRegsBut [] s t)
    ∧ KeepsPreds s t ∧ KeepsMem s t ∧ KeepsRest s t

/-! ### Results as numbers and bits -/

/-- x clamped to the signed w-bit range (00_scope.md R10). -/
def clampS (w : Nat) (x : Int) : Int := max (-(2 ^ (w - 1) : Int)) (min x (2 ^ (w - 1) - 1 : Int))

/-- Half of d, an exact half rounded to the odd neighbour (45_alu_packed.md R219, R221). -/
def halfToOdd (d : Int) : Int := if d % 4 = 1 then d / 2 + 1 else d / 2

/-- Bit i of a shifted left by k: zeros enter (44_shift_bitfield.md R191, 47_shift_packed.md R261). -/
def leftBit {N : Nat} (a : BitVec N) (k i : Nat) : Bool := decide (k ≤ i) && a.getLsbD (i - k)

/-- Bit i of a shifted right by k: zeros enter (44_shift_bitfield.md R193, 47_shift_packed.md R262). -/
def rightBit {N : Nat} (a : BitVec N) (k i : Nat) : Bool := decide (i + k < N) && a.getLsbD (i + k)

/-- Bit i of a shifted right by k: copies of the top bit enter (44_shift_bitfield.md R192, 47_shift_packed.md R263). -/
def arithBit {N : Nat} (a : BitVec N) (k i : Nat) : Bool := a.getLsbD (min (i + k) (N - 1))

/-! ### Data accesses -/

/-- Where the byte of significance k (0 the least) of an n-byte access at `a` stands (20_memory.md R52). -/
def byteAddress (o : ByteOrder) (a n k : Nat) : Nat :=
  match o with
  | .big => a + (n - 1 - k)
  | .little => a + k

/-- Bit i of the register value that loading n bytes from `a` gives: the bytes in BYTE_ORDER, extended by LOAD_EXTEND
(20_memory.md R52, 42_memory_access.md R163). -/
def loadedBit (s : State) (a n i : Nat) : Bool :=
  if i < 8 * n then (s.loadByte (byteAddress s.cfg.byteOrder a n (i / 8))).getLsbD (i % 8)
  else match s.cfg.loadExtend with
    | .zero => false
    | .sign => (s.loadByte (byteAddress s.cfg.byteOrder a n (n - 1))).getLsbD 7

/-- An n-byte access at `a` is admitted: aligned, every byte in MEM_MAP (20_memory.md R55, R59). -/
def Admitted (c : Config) (a n : Nat) : Prop := a % n = 0 ∧ ∀ j, j < n → c.mapped (a + j) = true

/-- No byte of the n from `a` lies in TEXT (20_memory.md R65). -/
def OutsideText (c : Config) (a n : Nat) : Prop := ∀ j, j < n → c.inText (a + j) = false

/-- The n bytes from `a` hold the low n bytes of `v` in BYTE_ORDER (20_memory.md R53). -/
def HoldsBytes {N : Nat} (t : State) (o : ByteOrder) (a n : Nat) (v : BitVec N) : Prop :=
  ∀ k, k < n → t.readByte (byteAddress o a n k) = some (v.extractLsb' (8 * k) 8)

/-- The outcome is a next state in which the n bytes from `a` hold the low bytes of `v`, no other byte, register,
predicate or flag has changed, and the pc has advanced by 4 (42_memory_access.md R166). -/
def StoresOnly (s : State) (a n : Nat) (v : BitVec s.xlen) (o : Result) : Prop :=
  ∃ t, o = .next t ∧ HoldsBytes t s.cfg.byteOrder a n v ∧ KeepsMemOutside a n s t
    ∧ KeepsRegsBut [] s t ∧ KeepsPreds s t ∧ KeepsRest s t ∧ AdvancesPc s t

/-- As `StoresOnly`, with the base register updated (42_memory_access.md R167). -/
def StoresAndUpdates (s : State) (a n : Nat) (v : BitVec s.xlen) (rs1 : Reg) (ea : BitVec s.xlen) (o : Result) : Prop :=
  ∃ t, o = .next t ∧ HoldsBytes t s.cfg.byteOrder a n v ∧ KeepsMemOutside a n s t
    ∧ t.reg s.xlen rs1 = (if rs1 = 0 then 0#s.xlen else ea)
    ∧ KeepsRegsBut [rs1] s t ∧ KeepsPreds s t ∧ KeepsRest s t ∧ AdvancesPc s t

/-- The outcome is a next state in which `rd` holds the n bytes from `a`, extended, the base register is updated, and
nothing else has changed (42_memory_access.md R165). -/
def LoadsAndUpdates (s : State) (a n : Nat) (rd rs1 : Reg) (ea : BitVec s.xlen) (o : Result) : Prop :=
  ∃ t, o = .next t
    ∧ (∀ i, i < s.xlen → (t.reg s.xlen rd).getLsbD i = (decide (rd ≠ 0) && loadedBit s a n i))
    ∧ t.reg s.xlen rs1 = (if rs1 = 0 then 0#s.xlen else ea)
    ∧ KeepsRegsBut [rd, rs1] s t ∧ KeepsPreds s t ∧ KeepsMem s t ∧ KeepsRest s t ∧ AdvancesPc s t

/-! ### Words written out field by field, as the bit patterns of the spec print them (30_encoding.md R84 to R93) -/

/-- `oooooo PPP` and 23 bits (R85). -/
def word0 (op : BitVec 6) (p : Pred) (rest : BitVec 23) : IWord := op ++ BitVec.ofFin (w := 3) p ++ rest

/-- `oooooo PPP ddddd` and 18 bits (R86). -/
def word1 (op : BitVec 6) (p : Pred) (rd : Reg) (rest : BitVec 18) : IWord :=
  op ++ BitVec.ofFin (w := 3) p ++ BitVec.ofFin (w := 5) rd ++ rest

/-- `oooooo PPP ddddd aaaaa` and 13 bits (R87, R88, R91). -/
def word2 (op : BitVec 6) (p : Pred) (rd rs1 : Reg) (rest : BitVec 13) : IWord :=
  op ++ BitVec.ofFin (w := 3) p ++ BitVec.ofFin (w := 5) rd ++ BitVec.ofFin (w := 5) rs1 ++ rest

/-- `oooooo PPP ddddd aaaaa bbbbb ss vvv nnn` (R89). -/
def word4 (op : BitVec 6) (p : Pred) (rd rs1 rs2 : Reg) (swc : BitVec 2) (var sa : BitVec 3) : IWord :=
  op ++ BitVec.ofFin (w := 3) p ++ BitVec.ofFin (w := 5) rd ++ BitVec.ofFin (w := 5) rs1
    ++ BitVec.ofFin (w := 5) rs2 ++ swc ++ var ++ sa

/-- `oooooo PPP aaaaa iiiiiiii AAA BBB xxxx` (R93). -/
def word5 (op : BitVec 6) (p : Pred) (rs1 : Reg) (imm8 : BitVec 8) (pa pb : Pred) (low : BitVec 4) : IWord :=
  op ++ BitVec.ofFin (w := 3) p ++ BitVec.ofFin (w := 5) rs1 ++ imm8
    ++ BitVec.ofFin (w := 3) pa ++ BitVec.ofFin (w := 3) pb ++ low

/-- The instruction word at four bytes, the first at the lowest address (20_memory.md R62). -/
def wordFrom (o : ByteOrder) (b0 b1 b2 b3 : Byte) : IWord :=
  match o with
  | .big => b0 ++ b1 ++ b2 ++ b3
  | .little => b3 ++ b2 ++ b1 ++ b0

/-! ### Instructions by their word -/

/-- The opcode of an instruction's word, bits 31:26 (30_encoding.md R84, R97). -/
def opcodeOf (i : Instr) : Nat := fOpcode (encode i)

/-- The instruction writes two predicate registers: cmp, cmpi or testbit (10_state.md R32). -/
def IsCompare (i : Instr) : Prop := opcodeOf i = 0x08 ∨ opcodeOf i = 0x09 ∨ opcodeOf i = 0x0A

/-- One of the four jumps (40_flow_control.md R120). -/
def IsJump (i : Instr) : Prop := opcodeOf i = 0x01 ∨ opcodeOf i = 0x02 ∨ opcodeOf i = 0x04 ∨ opcodeOf i = 0x05

/-- A load, store or update form (30_encoding.md R97). -/
def IsAccess (i : Instr) : Prop := 0x10 ≤ opcodeOf i ∧ opcodeOf i ≤ 0x1F

/-- A store or store.update (30_encoding.md R97). -/
def IsStore (i : Instr) : Prop := 0x18 ≤ opcodeOf i ∧ opcodeOf i ≤ 0x1F

/-- A load.update (30_encoding.md R97). -/
def IsLoadUpdate (i : Instr) : Prop := 0x14 ≤ opcodeOf i ∧ opcodeOf i ≤ 0x17

/-- The registers an instruction with this word may write (10_state.md R20, R22): Rd of the forms that have a register
destination, the base of the update forms, R31 of the linking jumps. -/
def destinations (w : IWord) : List Reg :=
  let op := fOpcode w
  (if op = 0x06 ∨ op = 0x07 ∨ (0x0D ≤ op ∧ op ≤ 0x17) ∨ 0x20 ≤ op then [fRd w] else [])
    ++ (if (0x14 ≤ op ∧ op ≤ 0x17) ∨ 0x1C ≤ op ∧ op ≤ 0x1F then [fRs1 w] else [])
    ++ (if op = 0x02 ∨ op = 0x05 then [31] else [])

/-- The access size in bytes of a load or store word: "the opcode is 0x10 + 8·s + 4·u + k" (30_encoding.md R97). -/
def accessBytes (w : IWord) : Nat := 2 ^ (fOpcode w % 4)

/-- The effective address of a load or store word in a state (42_memory_access.md R162). -/
def wordAddress (s : State) (w : IWord) : BitVec s.xlen := s.effectiveAddress (fRs1 w) (fImm13 w)

/-- Two outcomes agree in everything but the predicate registers and the selector. -/
def AgreeButPredicates (o o' : Result) : Prop :=
  match o, o' with
  | .next t, .next t' => t' = { t with ps := t'.ps, aps := t'.aps }
  | .fault f, .fault f' => f' = f
  | .refused r, .refused r' => r' = r
  | _, _ => False

/-! ### Runs -/

/-- The normal end of a run (60_exceptions.md R300): after k steps the machine is halted in t. -/
def HaltsIn (k : Nat) (s t : State) : Prop := Host.Core.run Sys2Proof.core k s = .next t ∧ t.halted = true

end Sys2Proof.Machine
end

