-- ==== Sys2Proof/Certificates/Slice0/Obligations.lean ====
section
/-! DEFINITION. The statements for the provers, as OBLIGATIONS.json lists them. Each docstring names the rules of spec/ it
rests on; "log n" is a row of notes/assumptions and "decision Dn" a row of 92_eei_decisions.md. -/

open Sys2Proof Sys2Proof.Machine

/-- On a machine that is not halted, with an aligned pc whose four bytes lie in MEM_MAP and hold b0 to b3, if the word
they spell in BYTE_ORDER decodes to i under the ENCODING of the configuration, whichever that is, then step is exec of
i on that same state: step adds nothing around exec. ENCODING is decision D2, the byte order D3 and the checks D45
(logs 2, 3, 45). (Derived: 10_state.md section 3; 20_memory.md section 5.) -/
def Obligations.StepRunsDecodedInstruction : Prop :=
  ∀ (s : State) (i : Instr) (b0 b1 b2 b3 : Byte),
    s.halted = false → s.pcAddr % 4 = 0 → (∀ j, j < 4 → s.cfg.mapped (s.pcAddr + j) = true) →
    s.readByte s.pcAddr = some b0 → s.readByte (s.pcAddr + 1) = some b1 →
    s.readByte (s.pcAddr + 2) = some b2 → s.readByte (s.pcAddr + 3) = some b3 →
    decodeUnder s.cfg.encoding s.cfg.xlen (wordFrom s.cfg.byteOrder b0 b1 b2 b3) = .ok i →
    step s = exec i s

/-- On a machine that is not halted: a pc that is no multiple of 4 gives MisalignedFetch; else the lowest of its four
byte addresses outside MEM_MAP gives AccessFault; else the lowest that holds no value gives uninitialisedFetch (the
model's own fault, log 57); else a word that does not decode under the configuration's ENCODING (log 2) gives
IllegalInstruction, whatever the machine's predicates hold. Decisions D2, D30, D33, D45 and D6. (Derived:
60_exceptions.md section 2; 20_memory.md section 5.) -/
def Obligations.FetchFaultsInOrder : Prop :=
  ∀ s : State, s.halted = false →
    (s.pcAddr % 4 ≠ 0 → step s = .fault (.misalignedFetch s.pc))
    ∧ (∀ j, s.pcAddr % 4 = 0 → j < 4 → (∀ k, k < j → s.cfg.mapped (s.pcAddr + k) = true) →
        s.cfg.mapped (s.pcAddr + j) = false → step s = .fault (.accessFault (s.pcAddr + j)))
    ∧ (s.pcAddr % 4 = 0 → (∀ k, k < 4 → s.cfg.mapped (s.pcAddr + k) = true) →
        (∀ j, j < 4 → (∀ k, k < j → s.readByte (s.pcAddr + k) ≠ none) → s.readByte (s.pcAddr + j) = none →
          step s = .fault (.uninitialisedFetch (s.pcAddr + j)))
        ∧ ∀ (b0 b1 b2 b3 : Byte) (e : DecodeError),
          s.readByte s.pcAddr = some b0 → s.readByte (s.pcAddr + 1) = some b1 →
          s.readByte (s.pcAddr + 2) = some b2 → s.readByte (s.pcAddr + 3) = some b3 →
          decodeUnder s.cfg.encoding s.cfg.xlen (wordFrom s.cfg.byteOrder b0 b1 b2 b3) = .error e →
          step s = .fault (.illegalInstruction (wordFrom s.cfg.byteOrder b0 b1 b2 b3)))

/-- For every instruction that exists at the register size, with every operand at every value its field admits,
decoding its word gives it back. The encoding is the reference encoding, decision D2 (log 2). (Derived: 30_encoding.md
section 5; 30_encoding.md section 4.) -/
def Obligations.DecodeEncodeIsIdentity : Prop :=
  ∀ (x : Xlen) (i : Instr), i.wf x = true → decode x (encode i) = .ok i

/-- A word that decodes gives a well-formed instruction whose own word is the word read with its ignored fields
cleared; so two words decode to one instruction only if they differ in ignored bits, and no reserved word reaches an
instruction. That is the reference encoding, which ENCODING = reference names; under every ENCODING a word decodes
only to an instruction that exists at the register size. Decisions D2, D38 (logs 2, 38). (Derived: 30_encoding.md
section 5.) -/
def Obligations.DecodedWordReencodes : Prop :=
  (∀ (x : Xlen) (w : IWord) (i : Instr), decode x w = .ok i →
    i.wf x = true ∧ encode i = w &&& ~~~(ignoredMask w))
  ∧ (∀ (x : Xlen) (w : IWord), decodeUnder .reference x w = decode x w)
  ∧ ∀ (e : Encoding) (x : Xlen) (w : IWord) (i : Instr), decodeUnder e x w = .ok i → i.wf x = true

/-- Any imm23 of trap, high two bits of imm18 of loadi, imm4 of testbit, imm8 of changepr and Rs2 of not decode to one
and the same instruction term, which holds none of them, so behaviour cannot depend on them; encode writes zero there.
Every amount of slli, srli, srai and shrp decodes; two amounts with the same low-order bits act alike, and where the
guard reads 1 the one amount refused, at execution, is u(imm13) = XLEN. The words are those of the reference encoding,
the spec's own choice D2 (log 2); the amounts alike modulo XLEN and the refusal of XLEN are decision D18 (log 18);
that a term holds no ignored bit and encode writes zeros is the model's reading of R100 and R103 (log 61, DEDUCED).
(Derived: 30_encoding.md R100; 44_shift_bitfield.md R190; 92_eei_decisions.md D2; 92_eei_decisions.md D18.) -/
def Obligations.IgnoredFieldsHaveNoEffect : Prop :=
  ∀ (x : Xlen) (p : Pred) (rd rs1 rs2 : Reg) (pa pb : Pred),
    (∀ imm23, decode x (word0 0x03 p imm23) = .ok (.trap p))
    ∧ (∀ (hi2 : BitVec 2) (imm16 : BitVec 16), decode x (word1 0x06 p rd (hi2 ++ imm16)) = .ok (.loadiHi p rd imm16)
        ∧ decode x (word1 0x07 p rd (hi2 ++ imm16)) = .ok (.loadiLo p rd imm16))
    ∧ (∀ imm8 imm4, decode x (word5 0x0A p rd imm8 pa pb imm4) = .ok (.testbit p rd imm8 pa pb))
    ∧ (∀ imm8 imm4, decode x (word5 0x0B p 0 imm8 0 0 imm4) = .ok (.changepr p imm4))
    ∧ decode x (word4 0x35 p rd rs1 rs2 0 0 0) = .ok (.notReg p rd rs1)
    ∧ (∀ i, encode i &&& ignoredMask (encode i) = 0)
    ∧ (∀ imm13, decode x (word2 0x25 p rd rs1 imm13) = .ok (.slli p rd rs1 imm13)
        ∧ decode x (word2 0x26 p rd rs1 imm13) = .ok (.srli p rd rs1 imm13)
        ∧ decode x (word2 0x27 p rd rs1 imm13) = .ok (.srai p rd rs1 imm13))
    ∧ (∀ imm8 : BitVec 8, decode x (word2 0x28 p rd rs1 (BitVec.ofFin (w := 5) rs2 ++ imm8))
        = .ok (.shrp p rd rs1 rs2 imm8))
    ∧ ∀ s : State,
        (∀ k k' : BitVec 13, k.toNat % s.xlen = k'.toNat % s.xlen → k.toNat ≠ s.xlen → k'.toNat ≠ s.xlen →
          exec (.slli p rd rs1 k) s = exec (.slli p rd rs1 k') s
          ∧ exec (.srli p rd rs1 k) s = exec (.srli p rd rs1 k') s
          ∧ exec (.srai p rd rs1 k) s = exec (.srai p rd rs1 k') s)
        ∧ (∀ k k' : BitVec 8, k.toNat % (2 * s.xlen) = k'.toNat % (2 * s.xlen) →
          exec (.shrp p rd rs1 rs2 k) s = exec (.shrp p rd rs1 rs2 k') s)
        ∧ (s.pred p = true → ∀ k : BitVec 13,
          (k.toNat = s.xlen → exec (.slli p rd rs1 k) s = .fault (.unspecifiedBehaviour .shiftByXlen)
            ∧ exec (.srli p rd rs1 k) s = .fault (.unspecifiedBehaviour .shiftByXlen)
            ∧ exec (.srai p rd rs1 k) s = .fault (.unspecifiedBehaviour .shiftByXlen))
          ∧ (k.toNat ≠ s.xlen → (∃ t, exec (.slli p rd rs1 k) s = .next t)
            ∧ (∃ t, exec (.srli p rd rs1 k) s = .next t) ∧ ∃ t, exec (.srai p rd rs1 k) s = .next t))

/-- One word of each family, as the spec prints it beside its instruction, decodes to that instruction; the words
0x00000000 and 0xFFFFFFFF are reserved; padd.8 is reserved at XLEN = 32. A check of a few words of the reference
encoding (log 2). (Derived: 95_test_vectors.md section 2; 30_encoding.md section 4.) -/
def Obligations.PrintedWordsDecode : Prop :=
  decode .x64 0x08000100 = .ok (.jmpLink 0 0x100)
    ∧ decode .x64 0x05FFFFF8 = .ok (.jmp 3 (-8))
    ∧ decode .x64 0x30029402 = .ok (.changeprLd 0 2 0xA5)
    ∧ decode .x64 0x200440A2 = .ok (.cmpLt 0 1 2 1 2)
    ∧ decode .x64 0x2407FE56 = .ok (.cmpiLtu 0 1 (-1) 4 5)
    ∧ decode .x64 0x18041234 = .ok (.loadiHi 0 1 0x1234)
    ∧ decode .x64 0x5C083FF8 = .ok (.load8Update 0 2 1 (-8))
    ∧ decode .x64 0x84045000 = .ok (.subi 0 1 2 (-4096))
    ∧ decode .x64 0xA4044210 = .ok (.extract 0 1 2 8 16)
    ∧ decode .x64 0xAC044350 = .ok (.padd2S 0 1 2 3)
    ∧ decode .x64 0xC8044300 = .ok (.andcm 0 1 2 3)
    ∧ decode .x64 0xEC04434A = .ok (.pmulshr15A 0 1 2 3)
    ∧ decode .x64 0xF0044388 = .ok (.pshift4R 0 1 2 3)
    ∧ decode .x64 0x34044388 = .ok (.mix4R 0 1 2 3)
    ∧ decode .x64 0x38044018 = .ok (.muxAlt 0 1 2)
    ∧ decode .x64 0x00000000 = .error .reservedOpcode
    ∧ decode .x64 0xFFFFFFFF = .error .reservedOpcode
    ∧ decode .x32 0xAC0443C0 = .error .absentSize

/-- From every state, reachable or not, in which memory is in its canonical form and lists only addresses of MEM_MAP,
R0's cell holds 0, and the registers and the pc hold XLEN-bit values, a step that answers a next state answers one in
which all of this holds again (logs 52, 57). (Derived: 10_state.md section 1; 10_state.md section 2; 20_memory.md
section 1.) -/
def Obligations.StepKeepsInvariant : Prop :=
  ∀ s t : State, s.Inv → step s = .next t → t.Inv

/-- For every configuration that 00_scope.md R5 admits, the state after reset meets the invariant of
StepKeepsInvariant. (Derived: 70_reset_and_hazards.md section 1.) -/
def Obligations.ResetMeetsInvariant : Prop :=
  ∀ c : Config, c.wf = true → (State.resetWith c).Inv

/-- For every admissible configuration, after reset the pc is RESET_PC, a multiple of 4 in MEM_MAP; the machine is not
halted; R0 reads 0; P0 reads 1 whichever set is active; no memory byte has a value yet (log 57); and State.reset is
this state at the reference configuration, whose RESET_PC is 0 (decision D29, log 29). Nothing is said of R1 to R31,
P1 to P7 and aps, whose reset values are the model's (logs 53, 54). (Derived: 70_reset_and_hazards.md section 1;
10_state.md section 7.) -/
def Obligations.ResetStateValues : Prop :=
  (∀ c : Config, c.wf = true →
    (State.resetWith c).cfg = c ∧ (State.resetWith c).pcAddr = c.resetPc
    ∧ c.resetPc % 4 = 0 ∧ c.mapped c.resetPc = true ∧ (State.resetWith c).halted = false
    ∧ (∀ N, (State.resetWith c).reg N 0 = 0#N) ∧ (∀ k : PredSet, ((State.resetWith c).setAps k).pred 0 = true)
    ∧ ∀ a, (State.resetWith c).readByte a = none)
  ∧ State.reset = State.resetWith Config.reference ∧ Config.reference.wf = true ∧ Config.reference.resetPc = 0

/-- If a run is halted in t after k steps, then it is in t, halted, after every greater number of steps: nothing wakes
a halted processor. That a halted machine's step answers its own state is the model's choice (log 58); decision D12.
(Derived: 10_state.md section 5; 60_exceptions.md section 1.) -/
def Obligations.HaltedStateStays : Prop :=
  ∀ (k n : Nat) (s t : State), HaltsIn k s t → k ≤ n → HaltsIn n s t

/-- Along any run, of any length and from any state, every byte of TEXT reads after as it read before, and the
configuration, TEXT with it, is the same. Decision D32 (log 32). (Derived: 20_memory.md section 5.) -/
def Obligations.TextNeverChanges : Prop :=
  ∀ (k : Nat) (s t : State), Host.Core.run Sys2Proof.core k s = .next t →
    t.cfg = s.cfg ∧ ∀ a, s.cfg.inText a = true → t.readByte a = s.readByte a

/-- For every instruction that exists at the register size and whose guard reads 0 (a trap only where TRAP_PREDICATED
is true), exec answers a next state in which only the pc has changed, by 4; so it raises no fault from its operands.
Decision D10 (log 10); trap is decision D11 (log 11). (Derived: 10_state.md section 4; 70_reset_and_hazards.md section
3.) -/
def Obligations.NullifiedInstructionOnlyAdvances : Prop :=
  ∀ (i : Instr) (s : State), i.wf s.cfg.xlen = true → s.pred i.guardField = false →
    (opcodeOf i = 0x03 → s.cfg.trapPredicated = true) → OnlyAdvances s (exec i s)

/-- An executed cmp, cmpi or testbit leaves Pa with an outcome and Pb with its complement (P0 reads 1 whatever is
written) and every other predicate of every set as it was, in the active set. An executed changepr.ld writes P1 to P7
of the set it makes active (their values after it do not depend on the state before) and no other set. Every other
instruction, and every nullified one, writes no predicate. The outcome is left open here (some b): that it is the
relation asked for is CompareResults, CompareImmediateResults and TestBitResult. That a nullified one writes nothing
is decision D10 (log 10). (Derived: 10_state.md section 4; 92_eei_decisions.md D10.) -/
def Obligations.PredicateWriters : Prop :=
  ∀ (i : Instr) (s t : State), exec i s = .next t →
    (IsCompare i → s.pred i.guardField = true →
      t.aps = s.aps ∧ (∀ k : PredSet, k ≠ s.aps → t.ps[k.val] = s.ps[k.val])
      ∧ ∃ b : Bool, ∀ j : Pred, t.pred j =
        if j = 0 then true else if j = fPb (encode i) then !b else if j = fPa (encode i) then b else s.pred j)
    ∧ (opcodeOf i = 0x0C → s.pred i.guardField = true →
      (∀ k : PredSet, k ≠ t.aps → t.ps[k.val] = s.ps[k.val])
      ∧ ∀ s' t' : State, s'.pred i.guardField = true → exec i s' = .next t' →
        t'.aps = t.aps ∧ ∀ j : Pred, t'.pred j = t.pred j)
    ∧ (¬ (IsCompare i ∨ opcodeOf i = 0x0C) ∨ s.pred i.guardField = false → t.ps = s.ps)

/-- An instruction other than changepr and changepr.ld leaves aps as it was; one of these leaves it as it was or equal
to its 4-bit immediate; an executed one completes and leaves it equal to that immediate, whichever of the 16 values
that is. And no instruction reads aps into a register: with any other value of aps under which the guard reads the
same, exec answers the same fault, the same refusal, or next states that agree in everything but the predicates and
aps. (What a nullified one leaves is NullifiedInstructionOnlyAdvances.) (Stated: R29.) -/
def Obligations.SelectorWriters : Prop :=
  (∀ (i : Instr) (s t : State), exec i s = .next t →
      (¬ (opcodeOf i = 0x0B ∨ opcodeOf i = 0x0C) → t.aps = s.aps)
      ∧ (t.aps = s.aps ∨ t.aps = (fLow4 (encode i)).toFin))
  ∧ (∀ (s : State) (p : Pred) (imm4 : BitVec 4) (imm8 : BitVec 8), s.pred p = true →
      (∃ t, exec (.changepr p imm4) s = .next t ∧ t.aps.val = imm4.toNat)
      ∧ ∃ t, exec (.changeprLd p imm4 imm8) s = .next t ∧ t.aps.val = imm4.toNat)
  ∧ ∀ (i : Instr) (s : State) (k : PredSet), (s.setAps k).pred i.guardField = s.pred i.guardField →
      AgreeButPredicates (exec i s) (exec i (s.setAps k))

/-- Take any instruction, any state, and any other contents of the sixteen predicate sets and of the selector under
which the instruction's guard reads the same. Then exec answers the same fault, the same refusal, or next states that
agree in every register, the pc, memory, the halted flag and the configuration: no instruction reads a predicate as
data or copies one to a register or to memory. (Derived: 10_state.md section 4.) -/
def Obligations.PredicatesAreReadOnlyAsGuards : Prop :=
  ∀ (i : Instr) (s : State) (ps : Vector (BitVec 7) 16) (k : PredSet),
    State.pred { s with ps := ps, aps := k } i.guardField = s.pred i.guardField →
    AgreeButPredicates (exec i s) (exec i { s with ps := ps, aps := k })

/-- After any instruction the halted flag is what it was, except that a trap which is not nullified has set it.
Decisions D10, D11 and D12 (logs 10, 11, 12). (Derived: 10_state.md section 5; 40_flow_control.md R125;
92_eei_decisions.md D10.) -/
def Obligations.OnlyTrapHalts : Prop :=
  ∀ (i : Instr) (s t : State), exec i s = .next t →
    t.halted = (s.halted || (decide (opcodeOf i = 0x03)
      && (s.pred i.guardField || !s.cfg.trapPredicated)))

/-- An instruction that is no store, or a nullified one, leaves every byte of memory as it was. A store leaves every
byte as it was but the access-size bytes from its effective address in the state before it. That a nullified one
writes nothing is decision D10 (log 10); that the displacement in that address is signed is decision D8 (log 8).
(Derived: 10_state.md section 1; 42_memory_access.md section 2; 92_eei_decisions.md D10; 92_eei_decisions.md D8.) -/
def Obligations.OnlyStoresWriteMemory : Prop :=
  ∀ (i : Instr) (s t : State), exec i s = .next t →
    (¬ IsStore i ∨ s.pred i.guardField = false → KeepsMem s t)
    ∧ KeepsMemOutside (wordAddress s (encode i)).toNat (accessBytes (encode i)) s t

/-- Every general register that is not the Rd of a form with a register destination, the base Rs1 of an update form,
or R31 in a linking jump reads as before; where the guard reads 0 every register does. That a nullified instruction
writes no register is decision D10 (log 10). (Derived: 10_state.md section 2; 30_encoding.md section 3;
42_memory_access.md R165; 42_memory_access.md R167; 92_eei_decisions.md D10.) -/
def Obligations.RegistersChangeOnlyAtDestinations : Prop :=
  ∀ (i : Instr) (s t : State), exec i s = .next t →
    KeepsRegsBut (destinations (encode i)) s t
    ∧ (s.pred i.guardField = false → KeepsRegsBut [] s t)

/-- After an instruction that is no jump and no trap, or whose guard reads 0 (trap only where TRAP_PREDICATED is
true), the pc is pc + 4 modulo 2^XLEN; after an executed trap it is unchanged. Decisions D5, D10, D11 (logs 5, 10,
11). (Derived: 10_state.md section 3; 40_flow_control.md R120.) -/
def Obligations.NonJumpsAdvanceThePc : Prop :=
  ∀ (i : Instr) (s t : State), exec i s = .next t →
    ((¬ IsJump i ∧ opcodeOf i ≠ 0x03)
      ∨ (s.pred i.guardField = false ∧ (opcodeOf i = 0x03 → s.cfg.trapPredicated = true)) → AdvancesPc s t)
    ∧ (opcodeOf i = 0x03 → s.pred i.guardField = true ∨ s.cfg.trapPredicated = false → t.pc = s.pc)

/-- If exec answers a fault then the guard reads 1 and: MisalignedData, AccessFault only from loads and stores; each
UnspecifiedBehaviour case only from the instructions and under the operand condition that R308 lists for it; never
MisalignedFetch, IllegalInstruction or uninitialisedFetch, which belong to the fetch. The faults are decision D30 (log
30); that a nullified instruction raises none is decision D10 (log 10). (Derived: 60_exceptions.md section 2;
92_eei_decisions.md D30; 92_eei_decisions.md D10.) -/
def Obligations.FaultsComeOnlyFromTheirCauses : Prop :=
  ∀ (i : Instr) (s : State) (f : Fault), exec i s = .fault f →
    s.pred i.guardField = true ∧ match f with
    | .misalignedData ea => IsAccess i ∧ ea = (wordAddress s (encode i)).setWidth 64
        ∧ (wordAddress s (encode i)).toNat % accessBytes (encode i) ≠ 0
    | .accessFault a => IsAccess i ∧ s.cfg.mapped a = false
        ∧ (wordAddress s (encode i)).toNat ≤ a ∧ a < (wordAddress s (encode i)).toNat + accessBytes (encode i)
    | .unspecifiedBehaviour .cmpSamePredicate => IsCompare i ∧ fPa (encode i) = fPb (encode i) ∧ fPa (encode i) ≠ 0
    | .unspecifiedBehaviour .loadUpdateSameRegister =>
        IsLoadUpdate i ∧ fRd (encode i) = fRs1 (encode i) ∧ fRd (encode i) ≠ 0
    | .unspecifiedBehaviour .linkThroughR31 => opcodeOf i = 0x05 ∧ fRd (encode i) = 31
    | .unspecifiedBehaviour .shiftByXlen =>
        (0x25 ≤ opcodeOf i ∧ opcodeOf i ≤ 0x27) ∧ (fImm13 (encode i)).toNat = s.xlen
    | .unspecifiedBehaviour .bitfieldRange => (opcodeOf i = 0x29 ∨ opcodeOf i = 0x2A)
        ∧ ((fImm6 (encode i)).toNat = 0 ∨ s.xlen < (fImm7 (encode i)).toNat + (fImm6 (encode i)).toNat)
    | .unspecifiedBehaviour .packedShiftRange =>
        (opcodeOf i = 0x3C ∧ 8 * 2 ^ (fSwc (encode i)).toNat ≤ (s.reg s.xlen (fRs2 (encode i))).toNat)
        ∨ (opcodeOf i = 0x3D ∧ 8 * 2 ^ (fSwc (encode i)).toNat ≤ (fImm5 (encode i)).toNat)
    | .unspecifiedBehaviour .storeToText => IsStore i
        ∧ ∃ j, j < accessBytes (encode i) ∧ s.cfg.inText ((wordAddress s (encode i)).toNat + j) = true
    | .misalignedFetch _ | .illegalInstruction _ | .uninitialisedFetch _ => False

/-- A step never answers a refusal. exec answers one only for an instruction whose subword size does not exist at this
XLEN, and then absentForm (the model's name for a term the decoder never yields, log 60). Decision D38 (log 38).
(Derived: 30_encoding.md section 5; 60_exceptions.md section 1.) -/
def Obligations.NothingIsRefused : Prop :=
  (∀ (s : State) (r : Refusal), step s ≠ .refused r)
  ∧ (∀ (i : Instr) (s : State) (r : Refusal), i.wf s.cfg.xlen = true → exec i s ≠ .refused r)
  ∧ ∀ (i : Instr) (s : State), i.wf s.cfg.xlen = false → exec i s = .refused .absentForm

/-- With the guard reading 1, jmp sets the pc to the pc of the jump plus the signed imm23, modulo 2^XLEN, and changes
nothing else; jmp.link does the same and writes pc + 4 to R31. Sign extension is decision D9 (log 9). (Derived:
40_flow_control.md R120; 92_eei_decisions.md D9.) -/
def Obligations.JumpResults : Prop :=
  ∀ (s : State) (p : Pred) (imm23 : BitVec 23), s.pred p = true →
    JumpsTo s (BitVec.ofInt s.xlen ((s.pcv s.xlen).toNat + imm23.toInt)) false (exec (.jmp p imm23) s)
    ∧ JumpsTo s (BitVec.ofInt s.xlen ((s.pcv s.xlen).toNat + imm23.toInt)) true (exec (.jmpLink p imm23) s)

/-- With the guard reading 1, jmp.reg sets the pc to pc + x[Rd] modulo 2^XLEN and writes no register; jmp.reg.link
with Rd other than R31 does the same with the old x[Rd] and writes pc + 4 to R31; with Rd = R31 it raises
UnspecifiedBehaviour(link-through-r31). Decisions D36, D37 (logs 36, 37). (Derived: 40_flow_control.md R123;
40_flow_control.md R124; 92_eei_decisions.md D36.) -/
def Obligations.JumpRegisterResults : Prop :=
  ∀ (s : State) (p : Pred) (rd : Reg), s.pred p = true →
    JumpsTo s (BitVec.ofNat s.xlen ((s.pcv s.xlen).toNat + (s.reg s.xlen rd).toNat)) false (exec (.jmpReg p rd) s)
    ∧ (rd ≠ 31 →
      JumpsTo s (BitVec.ofNat s.xlen ((s.pcv s.xlen).toNat + (s.reg s.xlen rd).toNat)) true
        (exec (.jmpRegLink p rd) s))
    ∧ (rd = 31 → exec (.jmpRegLink p rd) s = .fault (.unspecifiedBehaviour .linkThroughR31))

/-- Where the guard reads 1 or TRAP_PREDICATED is false, trap sets the halted flag and keeps the pc, every register,
predicate, the selector, memory and the configuration. Where TRAP_PREDICATED is true and the guard reads 0 only the pc
changes, by 4. Decisions D11, D12 (logs 11, 12). (Derived: 40_flow_control.md R125; 60_exceptions.md section 1.) -/
def Obligations.TrapResult : Prop :=
  ∀ (s : State) (p : Pred),
    (s.pred p = true ∨ s.cfg.trapPredicated = false →
      ∃ t, exec (.trap p) s = .next t ∧ t.halted = true ∧ t.pc = s.pc ∧ KeepsRegsBut [] s t
        ∧ KeepsPreds s t ∧ KeepsMem s t ∧ t.cfg = s.cfg)
    ∧ (s.pred p = false → s.cfg.trapPredicated = true → OnlyAdvances s (exec (.trap p) s))

/-- The words 001011 PPP 00000 iiiiiiii 000 000 ssss decode to changepr, whatever imm8 is. With the guard reading 1 in
the old set, every value of imm4 leaves aps = imm4, all sixteen sets with their contents, P0 reading 1, and everything
else but the advancing pc unchanged; if imm4 is the active set, every predicate reads as before. With the guard
reading 0 in the old set only the pc changes. The words are the reference encoding's, the spec's own choice D2 (log
2); what a guard of 0 leaves is decision D10 (log 10). (Derived: 41_compare_predication.md R140; 92_eei_decisions.md
D2; 92_eei_decisions.md D10.) -/
def Obligations.ChangeprResult : Prop :=
  ∀ (s : State) (p : Pred) (imm4 : BitVec 4),
    (∀ imm8 : BitVec 8, decode s.cfg.xlen (word5 0x0B p 0 imm8 0 0 imm4) = .ok (.changepr p imm4))
    ∧ (s.pred p = true → ∃ t, exec (.changepr p imm4) s = .next t ∧ t.aps.val = imm4.toNat ∧ t.ps = s.ps
        ∧ t.pred 0 = true ∧ (s.aps.val = imm4.toNat → ∀ j : Pred, t.pred j = s.pred j)
        ∧ KeepsRegsBut [] s t ∧ KeepsMem s t ∧ KeepsRest s t ∧ AdvancesPc s t)
    ∧ (s.pred p = false → OnlyAdvances s (exec (.changepr p imm4) s))

/-- With the guard reading 1 in the old set, changepr.ld leaves aps = imm4, P0 reading 1 and Pi reading bit i of imm8
for i from 1 to 7, the other fifteen sets, the registers, memory and the halted flag as they were, and the pc
advanced. The bit order is decision D13 (log 13). (Derived: 41_compare_predication.md R141; 92_eei_decisions.md D13.)
-/
def Obligations.ChangeprLoadResult : Prop :=
  ∀ (s : State) (p : Pred) (imm4 : BitVec 4) (imm8 : BitVec 8), s.pred p = true →
    ∃ t, exec (.changeprLd p imm4 imm8) s = .next t ∧ t.aps.val = imm4.toNat
      ∧ (∀ j : Pred, t.pred j = (decide (j = 0) || imm8.getLsbD j.val))
      ∧ (∀ k : PredSet, k.val ≠ imm4.toNat → t.ps[k.val] = s.ps[k.val])
      ∧ KeepsRegsBut [] s t ∧ KeepsMem s t ∧ KeepsRest s t ∧ AdvancesPc s t

/-- With the guard reading 1 and Pa, Pb not the same register other than P0, each cmp.rel writes the truth value of
its relation between a = x[Rs1] and b = x[Rs2] to Pa and the complement to Pb: eq and ne of the bit vectors; lt, le,
gt, ge of the signed numbers; ltu, leu, gtu, geu of the unsigned numbers; and changes nothing else but the advancing
pc. (Stated: R143.) -/
def Obligations.CompareResults : Prop :=
  ∀ (s : State) (p : Pred) (rs1 rs2 : Reg) (pa pb : Pred), s.pred p = true → (pa = pb → pa = 0) →
    let a := s.reg s.xlen rs1
    let b := s.reg s.xlen rs2
    WritesPredicates s pa pb (decide (a = b)) (exec (.cmpEq p rs1 rs2 pa pb) s)
    ∧ WritesPredicates s pa pb (decide (a ≠ b)) (exec (.cmpNe p rs1 rs2 pa pb) s)
    ∧ WritesPredicates s pa pb (decide (a.toInt < b.toInt)) (exec (.cmpLt p rs1 rs2 pa pb) s)
    ∧ WritesPredicates s pa pb (decide (a.toInt ≤ b.toInt)) (exec (.cmpLe p rs1 rs2 pa pb) s)
    ∧ WritesPredicates s pa pb (decide (b.toInt < a.toInt)) (exec (.cmpGt p rs1 rs2 pa pb) s)
    ∧ WritesPredicates s pa pb (decide (b.toInt ≤ a.toInt)) (exec (.cmpGe p rs1 rs2 pa pb) s)
    ∧ WritesPredicates s pa pb (decide (a.toNat < b.toNat)) (exec (.cmpLtu p rs1 rs2 pa pb) s)
    ∧ WritesPredicates s pa pb (decide (a.toNat ≤ b.toNat)) (exec (.cmpLeu p rs1 rs2 pa pb) s)
    ∧ WritesPredicates s pa pb (decide (b.toNat < a.toNat)) (exec (.cmpGtu p rs1 rs2 pa pb) s)
    ∧ WritesPredicates s pa pb (decide (b.toNat ≤ a.toNat)) (exec (.cmpGeu p rs1 rs2 pa pb) s)

/-- With the guard reading 1 and Pa, Pb not the same register other than P0, each cmpi.rel writes the truth value of
its relation between a = x[Rs1] and b = imm8 sign-extended to XLEN to Pa and the complement to Pb, and changes nothing
else but the advancing pc. Sign extension for the unsigned relations is decision D39 (log 39). (Derived:
41_compare_predication.md R145; 92_eei_decisions.md D39.) -/
def Obligations.CompareImmediateResults : Prop :=
  ∀ (s : State) (p : Pred) (rs1 : Reg) (imm8 : BitVec 8) (pa pb : Pred), s.pred p = true → (pa = pb → pa = 0) →
    let a := s.reg s.xlen rs1
    let b := BitVec.ofInt s.xlen imm8.toInt
    WritesPredicates s pa pb (decide (a = b)) (exec (.cmpiEq p rs1 imm8 pa pb) s)
    ∧ WritesPredicates s pa pb (decide (a ≠ b)) (exec (.cmpiNe p rs1 imm8 pa pb) s)
    ∧ WritesPredicates s pa pb (decide (a.toInt < b.toInt)) (exec (.cmpiLt p rs1 imm8 pa pb) s)
    ∧ WritesPredicates s pa pb (decide (a.toInt ≤ b.toInt)) (exec (.cmpiLe p rs1 imm8 pa pb) s)
    ∧ WritesPredicates s pa pb (decide (b.toInt < a.toInt)) (exec (.cmpiGt p rs1 imm8 pa pb) s)
    ∧ WritesPredicates s pa pb (decide (b.toInt ≤ a.toInt)) (exec (.cmpiGe p rs1 imm8 pa pb) s)
    ∧ WritesPredicates s pa pb (decide (a.toNat < b.toNat)) (exec (.cmpiLtu p rs1 imm8 pa pb) s)
    ∧ WritesPredicates s pa pb (decide (a.toNat ≤ b.toNat)) (exec (.cmpiLeu p rs1 imm8 pa pb) s)
    ∧ WritesPredicates s pa pb (decide (b.toNat < a.toNat)) (exec (.cmpiGtu p rs1 imm8 pa pb) s)
    ∧ WritesPredicates s pa pb (decide (b.toNat ≤ a.toNat)) (exec (.cmpiGeu p rs1 imm8 pa pb) s)

/-- With the guard reading 1 and Pa, Pb not the same register other than P0, testbit writes bit u(imm8) of x[Rd] to Pa
and its complement to Pb where u(imm8) < XLEN, and 0 and 1 where u(imm8) is XLEN or more; nothing else changes but the
advancing pc. Decisions D16, D48 (logs 16, 48). (Derived: 41_compare_predication.md R146; 92_eei_decisions.md D16;
92_eei_decisions.md D48.) -/
def Obligations.TestBitResult : Prop :=
  ∀ (s : State) (p : Pred) (rd : Reg) (imm8 : BitVec 8) (pa pb : Pred), s.pred p = true → (pa = pb → pa = 0) →
    (imm8.toNat < s.xlen →
      WritesPredicates s pa pb (decide ((s.reg s.xlen rd).toNat / 2 ^ imm8.toNat % 2 = 1))
        (exec (.testbit p rd imm8 pa pb) s))
    ∧ (s.xlen ≤ imm8.toNat → WritesPredicates s pa pb false (exec (.testbit p rd imm8 pa pb) s))

/-- For every cmp, cmpi and testbit whose guard reads 1 and whose two destination fields name the same predicate
register other than P0, exec answers UnspecifiedBehaviour(cmp-same-predicate). Decision D15 (log 15). (Derived:
41_compare_predication.md R142; 92_eei_decisions.md D15.) -/
def Obligations.SamePredicateHasNoMeaning : Prop :=
  ∀ (i : Instr) (s : State), IsCompare i → s.pred i.guardField = true →
    fPa (encode i) = fPb (encode i) → fPa (encode i) ≠ 0 →
    exec i s = .fault (.unspecifiedBehaviour .cmpSamePredicate)

/-- With the guard reading 1, loadi.hi leaves Rd with bits 31..16 from imm18[15:0] and every other bit as it was,
loadi.lo with bits 15..0 from it and every other bit as it was; nothing else changes but the advancing pc. That the
other bits are kept is decision D41 (log 41). (Derived: 42_memory_access.md section 1; 92_eei_decisions.md D41.) -/
def Obligations.LoadImmediateResults : Prop :=
  ∀ (s : State) (p : Pred) (rd : Reg) (imm16 : BitVec 16), s.pred p = true →
    WritesBits s rd (fun i => if 16 ≤ i ∧ i < 32 then imm16.getLsbD (i - 16) else (s.reg s.xlen rd).getLsbD i)
      (exec (.loadiHi p rd imm16) s)
    ∧ WritesBits s rd (fun i => if i < 16 then imm16.getLsbD i else (s.reg s.xlen rd).getLsbD i)
      (exec (.loadiLo p rd imm16) s)

/-- The address of every load and store is x[Rs1] plus the signed 13-bit displacement, modulo 2^XLEN; with Rs1 = R0 it
is the displacement itself. Sign extension is decision D8 (log 8). (Derived: 42_memory_access.md section 2;
92_eei_decisions.md D8.) -/
def Obligations.EffectiveAddressWraps : Prop :=
  ∀ (s : State) (rs1 : Reg) (imm13 : BitVec 13),
    s.effectiveAddress rs1 imm13 = BitVec.ofInt s.xlen ((s.reg s.xlen rs1).toNat + imm13.toInt)
    ∧ s.effectiveAddress 0 imm13 = BitVec.ofInt s.xlen imm13.toInt

/-- With the guard reading 1 and the access aligned and inside MEM_MAP, load.sw answers a next state in which Rd holds
the sw bytes at the effective address in BYTE_ORDER, its other bits zeros or copies of the top loaded bit as
LOAD_EXTEND says (R0 still reads 0), and nothing else has changed but the advancing pc; load.8 at XLEN = 64. A byte
nothing has written reads as a free value (log 57). Decisions D3, D7 (logs 3, 7). (Derived: 42_memory_access.md
section 2; 20_memory.md section 2; 92_eei_decisions.md D3; 92_eei_decisions.md D7.) -/
def Obligations.LoadResults : Prop :=
  ∀ (s : State) (p : Pred) (rd rs1 : Reg) (imm13 : BitVec 13), s.pred p = true →
    let a := (s.effectiveAddress rs1 imm13).toNat
    (Admitted s.cfg a 1 → WritesBits s rd (loadedBit s a 1) (exec (.load1 p rd rs1 imm13) s))
    ∧ (Admitted s.cfg a 2 → WritesBits s rd (loadedBit s a 2) (exec (.load2 p rd rs1 imm13) s))
    ∧ (Admitted s.cfg a 4 → WritesBits s rd (loadedBit s a 4) (exec (.load4 p rd rs1 imm13) s))
    ∧ (s.cfg.xlen = .x64 → Admitted s.cfg a 8 → WritesBits s rd (loadedBit s a 8) (exec (.load8 p rd rs1 imm13) s))

/-- With the guard reading 1, the access admitted, and Rd, Rs1 different or both R0, load.sw.update answers a next
state in which Rd holds the bytes at x[Rs1] + imm13, Rs1 holds that address (a write to R0 being dropped in either
place), and nothing else has changed but the advancing pc. Decisions D28, D44 (logs 28, 44). (Derived:
42_memory_access.md R165; 92_eei_decisions.md D28; 92_eei_decisions.md D44.) -/
def Obligations.LoadUpdateResults : Prop :=
  ∀ (s : State) (p : Pred) (rd rs1 : Reg) (imm13 : BitVec 13), s.pred p = true → (rd = rs1 → rd = 0) →
    let ea := s.effectiveAddress rs1 imm13
    (Admitted s.cfg ea.toNat 1 → LoadsAndUpdates s ea.toNat 1 rd rs1 ea (exec (.load1Update p rd rs1 imm13) s))
    ∧ (Admitted s.cfg ea.toNat 2 → LoadsAndUpdates s ea.toNat 2 rd rs1 ea (exec (.load2Update p rd rs1 imm13) s))
    ∧ (Admitted s.cfg ea.toNat 4 → LoadsAndUpdates s ea.toNat 4 rd rs1 ea (exec (.load4Update p rd rs1 imm13) s))
    ∧ (s.cfg.xlen = .x64 → Admitted s.cfg ea.toNat 8 → LoadsAndUpdates s ea.toNat 8 rd rs1 ea (exec (.load8Update p rd rs1 imm13) s))

/-- With the guard reading 1, the access aligned, inside MEM_MAP and outside TEXT, store.sw answers a next state in
which the sw bytes at the effective address hold the low sw bytes of x[Rd] in BYTE_ORDER and nothing else has changed
(every other byte of memory, every register, predicate and flag) but the advancing pc; store.8 at XLEN = 64. Decisions
D3, D40 (logs 3, 40). (Derived: 42_memory_access.md R166; 20_memory.md section 2; 92_eei_decisions.md D40.) -/
def Obligations.StoreResults : Prop :=
  ∀ (s : State) (p : Pred) (rd rs1 : Reg) (imm13 : BitVec 13), s.pred p = true →
    let a := (s.effectiveAddress rs1 imm13).toNat
    (Admitted s.cfg a 1 → OutsideText s.cfg a 1 →
        StoresOnly s a 1 (s.reg s.xlen rd) (exec (.store1 p rd rs1 imm13) s))
    ∧ (Admitted s.cfg a 2 → OutsideText s.cfg a 2 →
        StoresOnly s a 2 (s.reg s.xlen rd) (exec (.store2 p rd rs1 imm13) s))
    ∧ (Admitted s.cfg a 4 → OutsideText s.cfg a 4 →
        StoresOnly s a 4 (s.reg s.xlen rd) (exec (.store4 p rd rs1 imm13) s))
    ∧ (s.cfg.xlen = .x64 → Admitted s.cfg a 8 → OutsideText s.cfg a 8 →
        StoresOnly s a 8 (s.reg s.xlen rd) (exec (.store8 p rd rs1 imm13) s))

/-- As StoreResults, and Rs1 holds the effective address afterwards (a write to R0 being dropped); where Rd = Rs1 the
value stored is the register's value before the update. Decisions D3, D40, D44 (logs 3, 40, 44). (Derived:
42_memory_access.md R167; 92_eei_decisions.md D44.) -/
def Obligations.StoreUpdateResults : Prop :=
  ∀ (s : State) (p : Pred) (rd rs1 : Reg) (imm13 : BitVec 13), s.pred p = true →
    let ea := s.effectiveAddress rs1 imm13
    (Admitted s.cfg ea.toNat 1 → OutsideText s.cfg ea.toNat 1 →
        StoresAndUpdates s ea.toNat 1 (s.reg s.xlen rd) rs1 ea (exec (.store1Update p rd rs1 imm13) s))
    ∧ (Admitted s.cfg ea.toNat 2 → OutsideText s.cfg ea.toNat 2 →
        StoresAndUpdates s ea.toNat 2 (s.reg s.xlen rd) rs1 ea (exec (.store2Update p rd rs1 imm13) s))
    ∧ (Admitted s.cfg ea.toNat 4 → OutsideText s.cfg ea.toNat 4 →
        StoresAndUpdates s ea.toNat 4 (s.reg s.xlen rd) rs1 ea (exec (.store4Update p rd rs1 imm13) s))
    ∧ (s.cfg.xlen = .x64 → Admitted s.cfg ea.toNat 8 → OutsideText s.cfg ea.toNat 8 →
        StoresAndUpdates s ea.toNat 8 (s.reg s.xlen rd) rs1 ea (exec (.store8Update p rd rs1 imm13) s))

/-- For every load and store that exists at this XLEN, whose guard reads 1, and that is no load.update with Rd = Rs1
other than R0: an effective address that is no multiple of the size gives MisalignedData; else the lowest byte of the
access outside MEM_MAP gives AccessFault; else, for a store, a byte in TEXT gives UnspecifiedBehaviour(store-to-text).
A load.update with Rd = Rs1 other than R0 gives UnspecifiedBehaviour(load-update-same-register) before all of these.
Decisions D4, D6, D28, D30, D32. (Derived: 60_exceptions.md section 2; 20_memory.md section 3.) -/
def Obligations.RefusedAccessesFault : Prop :=
  ∀ (i : Instr) (s : State), i.wf s.cfg.xlen = true → IsAccess i → s.pred i.guardField = true →
    let ea := wordAddress s (encode i)
    let n := accessBytes (encode i)
    let same := IsLoadUpdate i ∧ fRd (encode i) = fRs1 (encode i) ∧ fRd (encode i) ≠ 0
    (same → exec i s = .fault (.unspecifiedBehaviour .loadUpdateSameRegister))
    ∧ (¬ same → ea.toNat % n ≠ 0 → exec i s = .fault (.misalignedData (ea.setWidth 64)))
    ∧ (¬ same → ea.toNat % n = 0 → ∀ j, j < n → (∀ k, k < j → s.cfg.mapped (ea.toNat + k) = true) →
        s.cfg.mapped (ea.toNat + j) = false → exec i s = .fault (.accessFault (ea.toNat + j)))
    ∧ (IsStore i → Admitted s.cfg ea.toNat n → ∀ j, j < n → s.cfg.inText (ea.toNat + j) = true →
        exec i s = .fault (.unspecifiedBehaviour .storeToText))

/-- With the guard reading 1 and the access admitted and outside TEXT, a store.sw followed by a load.sw at the same
base and displacement into a register other than R0 both complete, and the low 8·sw bits of the loaded register are
those of the stored register, under both byte orders. Decisions D3, D40 (logs 3, 40). (Derived: 42_memory_access.md
R166; 20_memory.md section 2.) -/
def Obligations.StoreThenLoadReturnsValue : Prop :=
  ∀ (s : State) (p : Pred) (rs rd rs1 : Reg) (imm13 : BitVec 13), s.pred p = true → rd ≠ 0 →
    let a := (s.effectiveAddress rs1 imm13).toNat
    (Admitted s.cfg a 1 → OutsideText s.cfg a 1 →
        ∃ t u, exec (.store1 p rs rs1 imm13) s = .next t ∧ exec (.load1 p rd rs1 imm13) t = .next u
          ∧ ∀ i, i < 8 * 1 → (u.reg s.xlen rd).getLsbD i = (s.reg s.xlen rs).getLsbD i)
    ∧ (Admitted s.cfg a 2 → OutsideText s.cfg a 2 →
        ∃ t u, exec (.store2 p rs rs1 imm13) s = .next t ∧ exec (.load2 p rd rs1 imm13) t = .next u
          ∧ ∀ i, i < 8 * 2 → (u.reg s.xlen rd).getLsbD i = (s.reg s.xlen rs).getLsbD i)
    ∧ (Admitted s.cfg a 4 → OutsideText s.cfg a 4 →
        ∃ t u, exec (.store4 p rs rs1 imm13) s = .next t ∧ exec (.load4 p rd rs1 imm13) t = .next u
          ∧ ∀ i, i < 8 * 4 → (u.reg s.xlen rd).getLsbD i = (s.reg s.xlen rs).getLsbD i)
    ∧ (s.cfg.xlen = .x64 → Admitted s.cfg a 8 → OutsideText s.cfg a 8 →
        ∃ t u, exec (.store8 p rs rs1 imm13) s = .next t ∧ exec (.load8 p rd rs1 imm13) t = .next u
          ∧ ∀ i, i < 8 * 8 → (u.reg s.xlen rd).getLsbD i = (s.reg s.xlen rs).getLsbD i)

/-- With the guard reading 1, addi leaves Rd with x[Rs1] plus the signed imm13 and subi with x[Rs1] minus it, modulo
2^XLEN (R0 still reads 0), and nothing else changes but the advancing pc. Modular arithmetic is decision D50 (log 50).
(Derived: 43_alu_immediate.md R181; 43_alu_immediate.md R184; 92_eei_decisions.md D50.) -/
def Obligations.AddSubImmediateResults : Prop :=
  ∀ (s : State) (p : Pred) (rd rs1 : Reg) (imm13 : BitVec 13), s.pred p = true →
    WritesOnly s rd (BitVec.ofInt s.xlen ((s.reg s.xlen rs1).toInt + imm13.toInt)) (exec (.addi p rd rs1 imm13) s)
    ∧ WritesOnly s rd (BitVec.ofInt s.xlen ((s.reg s.xlen rs1).toInt - imm13.toInt)) (exec (.subi p rd rs1 imm13) s)

/-- The words 100010, 100011, 100100 PPP ddddd aaaaa iiiiiiiiiiiii decode to andi, ori and xori. With the guard
reading 1, bit i of Rd becomes bit i of x[Rs1] anded, ored, xored with bit i of imm13, bits from 13 up being 0 in it
(R0 still reads 0); nothing else changes but the advancing pc, and none of them faults. The words are the reference
encoding's, the spec's own choice D2 (log 2); that none faults is decision D49's second treatment, the model's choice:
registers hold a value from reset on (log 49). (Derived: 43_alu_immediate.md R182; 43_alu_immediate.md R183;
43_alu_immediate.md R185; 92_eei_decisions.md D2; 92_eei_decisions.md D49.) -/
def Obligations.LogicalImmediateResults : Prop :=
  ∀ (s : State) (p : Pred) (rd rs1 : Reg) (imm13 : BitVec 13),
    let a := s.reg s.xlen rs1
    decode s.cfg.xlen (word2 0b100010 p rd rs1 imm13) = .ok (.andi p rd rs1 imm13)
    ∧ decode s.cfg.xlen (word2 0b100011 p rd rs1 imm13) = .ok (.ori p rd rs1 imm13)
    ∧ decode s.cfg.xlen (word2 0b100100 p rd rs1 imm13) = .ok (.xori p rd rs1 imm13)
    ∧ (s.pred p = true →
      WritesBits s rd (fun i => a.getLsbD i && imm13.getLsbD i) (exec (.andi p rd rs1 imm13) s)
      ∧ WritesBits s rd (fun i => a.getLsbD i || imm13.getLsbD i) (exec (.ori p rd rs1 imm13) s)
      ∧ WritesBits s rd (fun i => a.getLsbD i != imm13.getLsbD i) (exec (.xori p rd rs1 imm13) s))

/-- With the guard reading 1 and u(imm13) other than XLEN, slli, srli and srai leave Rd with x[Rs1] shifted left,
right with zeros, right with copies of the top bit, by u(imm13) modulo XLEN, and nothing else changes but the
advancing pc; with u(imm13) = XLEN each raises UnspecifiedBehaviour(shift-by-xlen). Decision D18 (log 18). (Derived:
44_shift_bitfield.md R190; 92_eei_decisions.md D18.) -/
def Obligations.ScalarShiftResults : Prop :=
  ∀ (s : State) (p : Pred) (rd rs1 : Reg) (imm13 : BitVec 13), s.pred p = true →
    let a := s.reg s.xlen rs1
    let k := imm13.toNat % s.xlen
    (imm13.toNat ≠ s.xlen →
      WritesBits s rd (leftBit a k) (exec (.slli p rd rs1 imm13) s)
      ∧ WritesBits s rd (rightBit a k) (exec (.srli p rd rs1 imm13) s)
      ∧ WritesBits s rd (arithBit a k) (exec (.srai p rd rs1 imm13) s))
    ∧ (imm13.toNat = s.xlen →
      exec (.slli p rd rs1 imm13) s = .fault (.unspecifiedBehaviour .shiftByXlen)
      ∧ exec (.srli p rd rs1 imm13) s = .fault (.unspecifiedBehaviour .shiftByXlen)
      ∧ exec (.srai p rd rs1 imm13) s = .fault (.unspecifiedBehaviour .shiftByXlen))

/-- With the guard reading 1, bit i of Rd becomes bit i + k of the pair, k being u(imm8) modulo 2·XLEN: a bit of
x[Rs2] below XLEN, of x[Rs1] from XLEN to 2·XLEN - 1, and 0 above; nothing else changes but the advancing pc. Decision
D20 (log 20). (Derived: 44_shift_bitfield.md R194; 92_eei_decisions.md D20.) -/
def Obligations.ShiftRightPairResult : Prop :=
  ∀ (s : State) (p : Pred) (rd rs1 rs2 : Reg) (imm8 : BitVec 8), s.pred p = true →
    let k := imm8.toNat % (2 * s.xlen)
    WritesBits s rd
      (fun i => if i + k < s.xlen then (s.reg s.xlen rs2).getLsbD (i + k)
        else (s.reg s.xlen rs1).getLsbD (i + k - s.xlen))
      (exec (.shrp p rd rs1 rs2 imm8) s)

/-- With the guard reading 1, 0 < len and pos + len at most XLEN: extract leaves Rd with bits pos to pos+len-1 of
x[Rs1] right-aligned and zeros above; deposit leaves Rd with its bits pos to pos+len-1 from the low bits of x[Rs1] and
its other bits as they were; nothing else changes but the advancing pc. Otherwise both raise
UnspecifiedBehaviour(bitfield-range). Decisions D16, D19 (logs 16, 19). (Derived: 44_shift_bitfield.md R195;
44_shift_bitfield.md R196; 92_eei_decisions.md D19.) -/
def Obligations.ExtractDepositResults : Prop :=
  ∀ (s : State) (p : Pred) (rd rs1 : Reg) (imm7 : BitVec 7) (imm6 : BitVec 6), s.pred p = true →
    let pos := imm7.toNat
    let len := imm6.toNat
    let a := s.reg s.xlen rs1
    let d := s.reg s.xlen rd
    (0 < len → pos + len ≤ s.xlen →
      WritesBits s rd (fun i => decide (i < len) && a.getLsbD (pos + i)) (exec (.extract p rd rs1 imm7 imm6) s)
      ∧ WritesBits s rd (fun i => if pos ≤ i ∧ i < pos + len then a.getLsbD (i - pos) else d.getLsbD i)
        (exec (.deposit p rd rs1 imm7 imm6) s))
    ∧ (len = 0 ∨ s.xlen < pos + len →
      exec (.extract p rd rs1 imm7 imm6) s = .fault (.unspecifiedBehaviour .bitfieldRange)
      ∧ exec (.deposit p rd rs1 imm7 imm6) s = .fault (.unspecifiedBehaviour .bitfieldRange))

/-- The words with opcodes 110001 to 110101 and zero sub-operation fields decode to and, andcm, or, xor and not
(whatever the Rs2 field of not holds). With the guard reading 1, bit i of Rd becomes a and b, a and not b, a or b, a
xor b, not a, where a and b are bit i of x[Rs1] and x[Rs2] (R0 still reads 0); nothing else changes but the advancing
pc, and none faults. The words are the reference encoding's, the spec's own choice D2 (log 2); that none faults is
decision D49's second treatment, the model's choice: registers hold a value from reset on (log 49). (Derived:
45_alu_packed.md R222; 45_alu_packed.md R223; 45_alu_packed.md R224; 45_alu_packed.md R225; 45_alu_packed.md R226;
92_eei_decisions.md D2; 92_eei_decisions.md D49.) -/
def Obligations.LogicalResults : Prop :=
  ∀ (s : State) (p : Pred) (rd rs1 rs2 : Reg),
    let a := s.reg s.xlen rs1
    let b := s.reg s.xlen rs2
    decode s.cfg.xlen (word4 0b110001 p rd rs1 rs2 0 0 0) = .ok (.andReg p rd rs1 rs2)
    ∧ decode s.cfg.xlen (word4 0b110010 p rd rs1 rs2 0 0 0) = .ok (.andcm p rd rs1 rs2)
    ∧ decode s.cfg.xlen (word4 0b110011 p rd rs1 rs2 0 0 0) = .ok (.orReg p rd rs1 rs2)
    ∧ decode s.cfg.xlen (word4 0b110100 p rd rs1 rs2 0 0 0) = .ok (.xorReg p rd rs1 rs2)
    ∧ decode s.cfg.xlen (word4 0b110101 p rd rs1 rs2 0 0 0) = .ok (.notReg p rd rs1)
    ∧ (s.pred p = true →
      WritesBits s rd (fun i => a.getLsbD i && b.getLsbD i) (exec (.andReg p rd rs1 rs2) s)
      ∧ WritesBits s rd (fun i => a.getLsbD i && !b.getLsbD i) (exec (.andcm p rd rs1 rs2) s)
      ∧ WritesBits s rd (fun i => a.getLsbD i || b.getLsbD i) (exec (.orReg p rd rs1 rs2) s)
      ∧ WritesBits s rd (fun i => a.getLsbD i != b.getLsbD i) (exec (.xorReg p rd rs1 rs2) s)
      ∧ WritesBits s rd (fun i => !a.getLsbD i) (exec (.notReg p rd rs1) s))

/-- Every lane of Rd becomes, modulo 2^w, the sum (padd), the sum plus one (paddincr), the difference (psub) or the
difference minus one (psubdecr) of the lanes of x[Rs1] and x[Rs2], Rs2 being the subtrahend, for w = 8, 16, 32, 64,
with the guard reading 1 (R0 still reads 0), and nothing else changes but the advancing pc; the 8-byte forms at XLEN =
64. (Derived: 45_alu_packed.md section 1; 45_alu_packed.md section 2.) -/
def Obligations.PackedModularResults : Prop :=
  ∀ (s : State) (p : Pred) (rd rs1 rs2 : Reg), s.pred p = true →
    WritesPairs s rd rs1 rs2 8 (fun a b v => v.toNat = (a.toNat + b.toNat) % 2 ^ 8)
        (exec (.padd1 p rd rs1 rs2) s)
    ∧ WritesPairs s rd rs1 rs2 16 (fun a b v => v.toNat = (a.toNat + b.toNat) % 2 ^ 16)
        (exec (.padd2 p rd rs1 rs2) s)
    ∧ WritesPairs s rd rs1 rs2 32 (fun a b v => v.toNat = (a.toNat + b.toNat) % 2 ^ 32)
        (exec (.padd4 p rd rs1 rs2) s)
    ∧ (s.cfg.xlen = .x64 → WritesPairs s rd rs1 rs2 64 (fun a b v => v.toNat = (a.toNat + b.toNat) % 2 ^ 64)
        (exec (.padd8 p rd rs1 rs2) s))
    ∧ WritesPairs s rd rs1 rs2 8 (fun a b v => v.toNat = (a.toNat + b.toNat + 1) % 2 ^ 8)
        (exec (.paddincr1 p rd rs1 rs2) s)
    ∧ WritesPairs s rd rs1 rs2 16 (fun a b v => v.toNat = (a.toNat + b.toNat + 1) % 2 ^ 16)
        (exec (.paddincr2 p rd rs1 rs2) s)
    ∧ WritesPairs s rd rs1 rs2 32 (fun a b v => v.toNat = (a.toNat + b.toNat + 1) % 2 ^ 32)
        (exec (.paddincr4 p rd rs1 rs2) s)
    ∧ (s.cfg.xlen = .x64 → WritesPairs s rd rs1 rs2 64 (fun a b v => v.toNat = (a.toNat + b.toNat + 1) % 2 ^ 64)
        (exec (.paddincr8 p rd rs1 rs2) s))
    ∧ WritesPairs s rd rs1 rs2 8 (fun a b v => (v.toNat : Int) = ((a.toNat : Int) - b.toNat) % 2 ^ 8)
        (exec (.psub1 p rd rs1 rs2) s)
    ∧ WritesPairs s rd rs1 rs2 16 (fun a b v => (v.toNat : Int) = ((a.toNat : Int) - b.toNat) % 2 ^ 16)
        (exec (.psub2 p rd rs1 rs2) s)
    ∧ WritesPairs s rd rs1 rs2 32 (fun a b v => (v.toNat : Int) = ((a.toNat : Int) - b.toNat) % 2 ^ 32)
        (exec (.psub4 p rd rs1 rs2) s)
    ∧ (s.cfg.xlen = .x64 → WritesPairs s rd rs1 rs2 64 (fun a b v => (v.toNat : Int) = ((a.toNat : Int) - b.toNat) % 2 ^ 64)
        (exec (.psub8 p rd rs1 rs2) s))
    ∧ WritesPairs s rd rs1 rs2 8 (fun a b v => (v.toNat : Int) = ((a.toNat : Int) - b.toNat - 1) % 2 ^ 8)
        (exec (.psubdecr1 p rd rs1 rs2) s)
    ∧ WritesPairs s rd rs1 rs2 16 (fun a b v => (v.toNat : Int) = ((a.toNat : Int) - b.toNat - 1) % 2 ^ 16)
        (exec (.psubdecr2 p rd rs1 rs2) s)
    ∧ WritesPairs s rd rs1 rs2 32 (fun a b v => (v.toNat : Int) = ((a.toNat : Int) - b.toNat - 1) % 2 ^ 32)
        (exec (.psubdecr4 p rd rs1 rs2) s)
    ∧ (s.cfg.xlen = .x64 → WritesPairs s rd rs1 rs2 64 (fun a b v => (v.toNat : Int) = ((a.toNat : Int) - b.toNat - 1) % 2 ^ 64)
        (exec (.psubdecr8 p rd rs1 rs2) s))

/-- Every lane of Rd becomes the smaller of the unsigned sum and 2^w - 1 (padd.u), the signed sum clamped to the
signed w-bit range (padd.s), the unsigned difference or 0 where it would be negative (psub.u), or the clamped signed
difference (psub.s), with the guard reading 1 (R0 still reads 0), and nothing else changes but the advancing pc; the
8-byte forms at XLEN = 64. The reading of saturation is decision D21 (log 21). (Derived: 45_alu_packed.md section 2;
92_eei_decisions.md D21.) -/
def Obligations.PackedSaturatingResults : Prop :=
  ∀ (s : State) (p : Pred) (rd rs1 rs2 : Reg), s.pred p = true →
    WritesPairs s rd rs1 rs2 8 (fun a b v => v.toNat = min (a.toNat + b.toNat) (2 ^ 8 - 1))
        (exec (.padd1U p rd rs1 rs2) s)
    ∧ WritesPairs s rd rs1 rs2 16 (fun a b v => v.toNat = min (a.toNat + b.toNat) (2 ^ 16 - 1))
        (exec (.padd2U p rd rs1 rs2) s)
    ∧ WritesPairs s rd rs1 rs2 32 (fun a b v => v.toNat = min (a.toNat + b.toNat) (2 ^ 32 - 1))
        (exec (.padd4U p rd rs1 rs2) s)
    ∧ (s.cfg.xlen = .x64 → WritesPairs s rd rs1 rs2 64 (fun a b v => v.toNat = min (a.toNat + b.toNat) (2 ^ 64 - 1))
        (exec (.padd8U p rd rs1 rs2) s))
    ∧ WritesPairs s rd rs1 rs2 8 (fun a b v => v.toInt = clampS 8 (a.toInt + b.toInt))
        (exec (.padd1S p rd rs1 rs2) s)
    ∧ WritesPairs s rd rs1 rs2 16 (fun a b v => v.toInt = clampS 16 (a.toInt + b.toInt))
        (exec (.padd2S p rd rs1 rs2) s)
    ∧ WritesPairs s rd rs1 rs2 32 (fun a b v => v.toInt = clampS 32 (a.toInt + b.toInt))
        (exec (.padd4S p rd rs1 rs2) s)
    ∧ (s.cfg.xlen = .x64 → WritesPairs s rd rs1 rs2 64 (fun a b v => v.toInt = clampS 64 (a.toInt + b.toInt))
        (exec (.padd8S p rd rs1 rs2) s))
    ∧ WritesPairs s rd rs1 rs2 8 (fun a b v => v.toNat = a.toNat - b.toNat)
        (exec (.psub1U p rd rs1 rs2) s)
    ∧ WritesPairs s rd rs1 rs2 16 (fun a b v => v.toNat = a.toNat - b.toNat)
        (exec (.psub2U p rd rs1 rs2) s)
    ∧ WritesPairs s rd rs1 rs2 32 (fun a b v => v.toNat = a.toNat - b.toNat)
        (exec (.psub4U p rd rs1 rs2) s)
    ∧ (s.cfg.xlen = .x64 → WritesPairs s rd rs1 rs2 64 (fun a b v => v.toNat = a.toNat - b.toNat)
        (exec (.psub8U p rd rs1 rs2) s))
    ∧ WritesPairs s rd rs1 rs2 8 (fun a b v => v.toInt = clampS 8 (a.toInt - b.toInt))
        (exec (.psub1S p rd rs1 rs2) s)
    ∧ WritesPairs s rd rs1 rs2 16 (fun a b v => v.toInt = clampS 16 (a.toInt - b.toInt))
        (exec (.psub2S p rd rs1 rs2) s)
    ∧ WritesPairs s rd rs1 rs2 32 (fun a b v => v.toInt = clampS 32 (a.toInt - b.toInt))
        (exec (.psub4S p rd rs1 rs2) s)
    ∧ (s.cfg.xlen = .x64 → WritesPairs s rd rs1 rs2 64 (fun a b v => v.toInt = clampS 64 (a.toInt - b.toInt))
        (exec (.psub8S p rd rs1 rs2) s))

/-- Every lane of Rd becomes half the unsigned sum of the lanes, an exact half rounded to the odd neighbour (pavg) or
up (pavg.raz), for w = 8 and 16, with the guard reading 1 (R0 still reads 0), and nothing else changes but the
advancing pc. Decision D22 (log 22). (Derived: 45_alu_packed.md section 3; 92_eei_decisions.md D22.) -/
def Obligations.PackedAverageResults : Prop :=
  ∀ (s : State) (p : Pred) (rd rs1 rs2 : Reg), s.pred p = true →
    WritesPairs s rd rs1 rs2 8 (fun a b v => (v.toNat : Int) = halfToOdd (a.toNat + b.toNat))
        (exec (.pavg1 p rd rs1 rs2) s)
    ∧ WritesPairs s rd rs1 rs2 16 (fun a b v => (v.toNat : Int) = halfToOdd (a.toNat + b.toNat))
        (exec (.pavg2 p rd rs1 rs2) s)
    ∧ WritesPairs s rd rs1 rs2 8 (fun a b v => v.toNat = (a.toNat + b.toNat + 1) / 2)
        (exec (.pavg1Raz p rd rs1 rs2) s)
    ∧ WritesPairs s rd rs1 rs2 16 (fun a b v => v.toNat = (a.toNat + b.toNat + 1) / 2)
        (exec (.pavg2Raz p rd rs1 rs2) s)

/-- Every lane of Rd becomes, as a signed number, half the difference of the unsigned lanes, an exact half rounded to
the odd neighbour; with PSUBAVG_TOP = carry its top bit is complemented (2^(w-1) is added modulo 2^w). For w = 8 and
16, with the guard reading 1 (R0 still reads 0), and nothing else changes but the advancing pc. Decision D22 (log 22).
(Derived: 45_alu_packed.md section 3; 92_eei_decisions.md D22.) -/
def Obligations.PackedSubtractAverageResults : Prop :=
  ∀ (s : State) (p : Pred) (rd rs1 rs2 : Reg), s.pred p = true →
    WritesPairs s rd rs1 rs2 8 (fun a b v => v = BitVec.ofInt 8 (halfToOdd ((a.toNat : Int) - b.toNat)
          + match s.cfg.subAvgTop with | .borrow => 0 | .carry => 2 ^ 7))
        (exec (.psubavg1 p rd rs1 rs2) s)
    ∧ WritesPairs s rd rs1 rs2 16 (fun a b v => v = BitVec.ofInt 16 (halfToOdd ((a.toNat : Int) - b.toNat)
          + match s.cfg.subAvgTop with | .borrow => 0 | .carry => 2 ^ 15))
        (exec (.psubavg2 p rd rs1 rs2) s)

/-- The words 110110 PPP ddddd aaaaa bbbbb ss 000 000 and ss 001 000 decode to pcmp.sw.eq and pcmp.sw.gt. With the
guard reading 1 every lane of Rd becomes all ones where the lanes of x[Rs1] and x[Rs2] are equal (eq), or where the
first is greater than the second as signed numbers (gt), and all zeros elsewhere (R0 still reads 0); no predicate and
nothing else changes but the advancing pc, and none faults; the 8-byte forms at XLEN = 64. The words are the reference
encoding's, the spec's own choice D2 (log 2); that none faults is decision D49's second treatment, the model's choice:
registers hold a value from reset on (log 49). (Derived: 45_alu_packed.md R227; 45_alu_packed.md R228;
92_eei_decisions.md D2; 92_eei_decisions.md D49.) -/
def Obligations.PackedCompareResults : Prop :=
  ∀ (s : State) (p : Pred) (rd rs1 rs2 : Reg),
    decode s.cfg.xlen (word4 0b110110 p rd rs1 rs2 0 0 0) = .ok (.pcmp1Eq p rd rs1 rs2)
    ∧ decode s.cfg.xlen (word4 0b110110 p rd rs1 rs2 0 1 0) = .ok (.pcmp1Gt p rd rs1 rs2)
    ∧ decode s.cfg.xlen (word4 0b110110 p rd rs1 rs2 1 0 0) = .ok (.pcmp2Eq p rd rs1 rs2)
    ∧ decode s.cfg.xlen (word4 0b110110 p rd rs1 rs2 1 1 0) = .ok (.pcmp2Gt p rd rs1 rs2)
    ∧ decode s.cfg.xlen (word4 0b110110 p rd rs1 rs2 2 0 0) = .ok (.pcmp4Eq p rd rs1 rs2)
    ∧ decode s.cfg.xlen (word4 0b110110 p rd rs1 rs2 2 1 0) = .ok (.pcmp4Gt p rd rs1 rs2)
    ∧ (s.cfg.xlen = .x64 → decode s.cfg.xlen (word4 0b110110 p rd rs1 rs2 3 0 0) = .ok (.pcmp8Eq p rd rs1 rs2))
    ∧ (s.cfg.xlen = .x64 → decode s.cfg.xlen (word4 0b110110 p rd rs1 rs2 3 1 0) = .ok (.pcmp8Gt p rd rs1 rs2))
    ∧ (s.pred p = true →
    WritesPairs s rd rs1 rs2 8 (fun a b v => v = if a = b then BitVec.allOnes 8 else 0)
        (exec (.pcmp1Eq p rd rs1 rs2) s)
    ∧ WritesPairs s rd rs1 rs2 16 (fun a b v => v = if a = b then BitVec.allOnes 16 else 0)
        (exec (.pcmp2Eq p rd rs1 rs2) s)
    ∧ WritesPairs s rd rs1 rs2 32 (fun a b v => v = if a = b then BitVec.allOnes 32 else 0)
        (exec (.pcmp4Eq p rd rs1 rs2) s)
    ∧ (s.cfg.xlen = .x64 → WritesPairs s rd rs1 rs2 64 (fun a b v => v = if a = b then BitVec.allOnes 64 else 0)
        (exec (.pcmp8Eq p rd rs1 rs2) s))
    ∧ WritesPairs s rd rs1 rs2 8 (fun a b v => v = if b.toInt < a.toInt then BitVec.allOnes 8 else 0)
        (exec (.pcmp1Gt p rd rs1 rs2) s)
    ∧ WritesPairs s rd rs1 rs2 16 (fun a b v => v = if b.toInt < a.toInt then BitVec.allOnes 16 else 0)
        (exec (.pcmp2Gt p rd rs1 rs2) s)
    ∧ WritesPairs s rd rs1 rs2 32 (fun a b v => v = if b.toInt < a.toInt then BitVec.allOnes 32 else 0)
        (exec (.pcmp4Gt p rd rs1 rs2) s)
    ∧ (s.cfg.xlen = .x64 → WritesPairs s rd rs1 rs2 64 (fun a b v => v = if b.toInt < a.toInt then BitVec.allOnes 64 else 0)
        (exec (.pcmp8Gt p rd rs1 rs2) s)))

/-- Every lane of Rd becomes the greater (pmax) or the lesser (pmin) of the signed lanes of x[Rs1] and x[Rs2], for w =
8 and 16, with the guard reading 1 (R0 still reads 0), and nothing else changes but the advancing pc. (Derived:
45_alu_packed.md section 5.) -/
def Obligations.PackedMaxMinResults : Prop :=
  ∀ (s : State) (p : Pred) (rd rs1 rs2 : Reg), s.pred p = true →
    WritesPairs s rd rs1 rs2 8 (fun a b v => v.toInt = max a.toInt b.toInt)
        (exec (.pmax1 p rd rs1 rs2) s)
    ∧ WritesPairs s rd rs1 rs2 16 (fun a b v => v.toInt = max a.toInt b.toInt)
        (exec (.pmax2 p rd rs1 rs2) s)
    ∧ WritesPairs s rd rs1 rs2 8 (fun a b v => v.toInt = min a.toInt b.toInt)
        (exec (.pmin1 p rd rs1 rs2) s)
    ∧ WritesPairs s rd rs1 rs2 16 (fun a b v => v.toInt = min a.toInt b.toInt)
        (exec (.pmin2 p rd rs1 rs2) s)

/-- Every 16-bit lane of Rd becomes the clamped sum of the lane of x[Rs2] and the signed lane of x[Rs1] times 2^sa
(.l: taken modulo 2^16, or clamped first where PSHIFTADD_SHIFT is saturating) or divided by 2^sa rounding down (.r),
with the guard reading 1 (R0 still reads 0), and nothing else changes but the advancing pc. Decision D24 (log 24).
(Derived: 45_alu_packed.md section 6; 92_eei_decisions.md D24.) -/
def Obligations.PackedShiftAddResults : Prop :=
  ∀ (s : State) (p : Pred) (rd rs1 rs2 : Reg), s.pred p = true →
    WritesPairs s rd rs1 rs2 16 (fun a b v => v.toInt = clampS 16 ((match s.cfg.shiftAddShift with
        | .modular => Int.bmod (a.toInt * 2 ^ 1) (2 ^ 16)
        | .saturating => clampS 16 (a.toInt * 2 ^ 1)) + b.toInt))
        (exec (.pshiftadd1L p rd rs1 rs2) s)
    ∧ WritesPairs s rd rs1 rs2 16 (fun a b v => v.toInt = clampS 16 ((match s.cfg.shiftAddShift with
        | .modular => Int.bmod (a.toInt * 2 ^ 2) (2 ^ 16)
        | .saturating => clampS 16 (a.toInt * 2 ^ 2)) + b.toInt))
        (exec (.pshiftadd2L p rd rs1 rs2) s)
    ∧ WritesPairs s rd rs1 rs2 16 (fun a b v => v.toInt = clampS 16 ((match s.cfg.shiftAddShift with
        | .modular => Int.bmod (a.toInt * 2 ^ 3) (2 ^ 16)
        | .saturating => clampS 16 (a.toInt * 2 ^ 3)) + b.toInt))
        (exec (.pshiftadd3L p rd rs1 rs2) s)
    ∧ WritesPairs s rd rs1 rs2 16 (fun a b v => v.toInt = clampS 16 (a.toInt / 2 ^ 1 + b.toInt))
        (exec (.pshiftadd1R p rd rs1 rs2) s)
    ∧ WritesPairs s rd rs1 rs2 16 (fun a b v => v.toInt = clampS 16 (a.toInt / 2 ^ 2 + b.toInt))
        (exec (.pshiftadd2R p rd rs1 rs2) s)
    ∧ WritesPairs s rd rs1 rs2 16 (fun a b v => v.toInt = clampS 16 (a.toInt / 2 ^ 3 + b.toInt))
        (exec (.pshiftadd3R p rd rs1 rs2) s)

/-- Every 32-bit lane j of Rd becomes the exact signed product of the 16-bit lanes 2j+1 (pmul.odd) or 2j (pmul.even)
of x[Rs1] and x[Rs2], with the guard reading 1 (R0 still reads 0), and nothing else changes but the advancing pc.
Decisions D17, D46 (logs 17, 46). (Derived: 46_multiply_packed.md R251; 46_multiply_packed.md R252;
92_eei_decisions.md D46.) -/
def Obligations.PackedMultiplyResults : Prop :=
  ∀ (s : State) (p : Pred) (rd rs1 rs2 : Reg), s.pred p = true →
    let a := s.reg s.xlen rs1
    let b := s.reg s.xlen rs2
    WritesLanes s rd 32 (fun j v => v.toInt = (lane 16 a (2 * j + 1)).toInt * (lane 16 b (2 * j + 1)).toInt)
      (exec (.pmulOdd p rd rs1 rs2) s)
    ∧ WritesLanes s rd 32 (fun j v => v.toInt = (lane 16 a (2 * j)).toInt * (lane 16 b (2 * j)).toInt)
      (exec (.pmulEven p rd rs1 rs2) s)

/-- Every 16-bit lane of Rd becomes the product of the lanes of x[Rs1] and x[Rs2], unsigned (pmulshr) or signed
(pmulshr.a), divided by 2^sa rounding down and taken modulo 2^16, for sa = 0, 8, 15, 16, with the guard reading 1 (R0
still reads 0), and nothing else changes but the advancing pc. Decisions D25, D46 (logs 25, 46). (Derived:
46_multiply_packed.md R253; 46_multiply_packed.md R254; 92_eei_decisions.md D25.) -/
def Obligations.PackedMultiplyShiftResults : Prop :=
  ∀ (s : State) (p : Pred) (rd rs1 rs2 : Reg), s.pred p = true →
    WritesPairs s rd rs1 rs2 16 (fun a b v => v.toNat = a.toNat * b.toNat / 2 ^ 0 % 2 ^ 16)
        (exec (.pmulshr0 p rd rs1 rs2) s)
    ∧ WritesPairs s rd rs1 rs2 16 (fun a b v => v.toNat = a.toNat * b.toNat / 2 ^ 8 % 2 ^ 16)
        (exec (.pmulshr8 p rd rs1 rs2) s)
    ∧ WritesPairs s rd rs1 rs2 16 (fun a b v => v.toNat = a.toNat * b.toNat / 2 ^ 15 % 2 ^ 16)
        (exec (.pmulshr15 p rd rs1 rs2) s)
    ∧ WritesPairs s rd rs1 rs2 16 (fun a b v => v.toNat = a.toNat * b.toNat / 2 ^ 16 % 2 ^ 16)
        (exec (.pmulshr16 p rd rs1 rs2) s)
    ∧ WritesPairs s rd rs1 rs2 16 (fun a b v => (v.toNat : Int) = a.toInt * b.toInt / 2 ^ 0 % 2 ^ 16)
        (exec (.pmulshr0A p rd rs1 rs2) s)
    ∧ WritesPairs s rd rs1 rs2 16 (fun a b v => (v.toNat : Int) = a.toInt * b.toInt / 2 ^ 8 % 2 ^ 16)
        (exec (.pmulshr8A p rd rs1 rs2) s)
    ∧ WritesPairs s rd rs1 rs2 16 (fun a b v => (v.toNat : Int) = a.toInt * b.toInt / 2 ^ 15 % 2 ^ 16)
        (exec (.pmulshr15A p rd rs1 rs2) s)
    ∧ WritesPairs s rd rs1 rs2 16 (fun a b v => (v.toNat : Int) = a.toInt * b.toInt / 2 ^ 16 % 2 ^ 16)
        (exec (.pmulshr16A p rd rs1 rs2) s)

/-- With k = u(x[Rs2]) and the guard reading 1: where k < w every w-bit lane of Rd becomes the lane of x[Rs1] shifted
by k left, right with zeros, right with copies of its top bit, and nothing else changes but the advancing pc; where k
is w or more the instruction raises UnspecifiedBehaviour(packed-shift-range); for w = 16, 32, and 64 at XLEN = 64.
Decision D23 (log 23). (Derived: 47_shift_packed.md section 1; 92_eei_decisions.md D23.) -/
def Obligations.PackedShiftResults : Prop :=
  ∀ (s : State) (p : Pred) (rd rs1 rs2 : Reg), s.pred p = true →
    let a := s.reg s.xlen rs1
    let k := (s.reg s.xlen rs2).toNat
    (k < 16 → WritesLanes s rd 16 (fun j v => ∀ i, i < 16 → v.getLsbD i = leftBit (lane 16 a j) k i)
        (exec (.pshift2L p rd rs1 rs2) s))
    ∧ (k < 16 → WritesLanes s rd 16 (fun j v => ∀ i, i < 16 → v.getLsbD i = rightBit (lane 16 a j) k i)
        (exec (.pshift2R p rd rs1 rs2) s))
    ∧ (k < 16 → WritesLanes s rd 16 (fun j v => ∀ i, i < 16 → v.getLsbD i = arithBit (lane 16 a j) k i)
        (exec (.pshift2Ra p rd rs1 rs2) s))
    ∧ (k < 32 → WritesLanes s rd 32 (fun j v => ∀ i, i < 32 → v.getLsbD i = leftBit (lane 32 a j) k i)
        (exec (.pshift4L p rd rs1 rs2) s))
    ∧ (k < 32 → WritesLanes s rd 32 (fun j v => ∀ i, i < 32 → v.getLsbD i = rightBit (lane 32 a j) k i)
        (exec (.pshift4R p rd rs1 rs2) s))
    ∧ (k < 32 → WritesLanes s rd 32 (fun j v => ∀ i, i < 32 → v.getLsbD i = arithBit (lane 32 a j) k i)
        (exec (.pshift4Ra p rd rs1 rs2) s))
    ∧ (s.cfg.xlen = .x64 → k < 64 → WritesLanes s rd 64 (fun j v => ∀ i, i < 64 → v.getLsbD i = leftBit (lane 64 a j) k i)
        (exec (.pshift8L p rd rs1 rs2) s))
    ∧ (s.cfg.xlen = .x64 → k < 64 → WritesLanes s rd 64 (fun j v => ∀ i, i < 64 → v.getLsbD i = rightBit (lane 64 a j) k i)
        (exec (.pshift8R p rd rs1 rs2) s))
    ∧ (s.cfg.xlen = .x64 → k < 64 → WritesLanes s rd 64 (fun j v => ∀ i, i < 64 → v.getLsbD i = arithBit (lane 64 a j) k i)
        (exec (.pshift8Ra p rd rs1 rs2) s))
    ∧ (16 ≤ k → exec (.pshift2L p rd rs1 rs2) s = .fault (.unspecifiedBehaviour .packedShiftRange))
    ∧ (16 ≤ k → exec (.pshift2R p rd rs1 rs2) s = .fault (.unspecifiedBehaviour .packedShiftRange))
    ∧ (16 ≤ k → exec (.pshift2Ra p rd rs1 rs2) s = .fault (.unspecifiedBehaviour .packedShiftRange))
    ∧ (32 ≤ k → exec (.pshift4L p rd rs1 rs2) s = .fault (.unspecifiedBehaviour .packedShiftRange))
    ∧ (32 ≤ k → exec (.pshift4R p rd rs1 rs2) s = .fault (.unspecifiedBehaviour .packedShiftRange))
    ∧ (32 ≤ k → exec (.pshift4Ra p rd rs1 rs2) s = .fault (.unspecifiedBehaviour .packedShiftRange))
    ∧ (s.cfg.xlen = .x64 → 64 ≤ k → exec (.pshift8L p rd rs1 rs2) s = .fault (.unspecifiedBehaviour .packedShiftRange))
    ∧ (s.cfg.xlen = .x64 → 64 ≤ k → exec (.pshift8R p rd rs1 rs2) s = .fault (.unspecifiedBehaviour .packedShiftRange))
    ∧ (s.cfg.xlen = .x64 → 64 ≤ k → exec (.pshift8Ra p rd rs1 rs2) s = .fault (.unspecifiedBehaviour .packedShiftRange))

/-- With k = u(imm5) and the guard reading 1: where k < w every w-bit lane of Rd becomes the lane of x[Rs1] shifted by
k left, right with zeros, right with copies of its top bit, and nothing else changes but the advancing pc; where k is
w or more (only w = 16 can meet it) the instruction raises UnspecifiedBehaviour(packed-shift-range); for w = 16, 32,
and 64 at XLEN = 64. Decision D23 (log 23). (Derived: 47_shift_packed.md section 2; 92_eei_decisions.md D23.) -/
def Obligations.PackedShiftImmediateResults : Prop :=
  ∀ (s : State) (p : Pred) (rd rs1 : Reg) (imm5 : BitVec 5), s.pred p = true →
    let a := s.reg s.xlen rs1
    let k := imm5.toNat
    (k < 16 → WritesLanes s rd 16 (fun j v => ∀ i, i < 16 → v.getLsbD i = leftBit (lane 16 a j) k i)
        (exec (.pshifti2L p rd rs1 imm5) s))
    ∧ (k < 16 → WritesLanes s rd 16 (fun j v => ∀ i, i < 16 → v.getLsbD i = rightBit (lane 16 a j) k i)
        (exec (.pshifti2R p rd rs1 imm5) s))
    ∧ (k < 16 → WritesLanes s rd 16 (fun j v => ∀ i, i < 16 → v.getLsbD i = arithBit (lane 16 a j) k i)
        (exec (.pshifti2Ra p rd rs1 imm5) s))
    ∧ (k < 32 → WritesLanes s rd 32 (fun j v => ∀ i, i < 32 → v.getLsbD i = leftBit (lane 32 a j) k i)
        (exec (.pshifti4L p rd rs1 imm5) s))
    ∧ (k < 32 → WritesLanes s rd 32 (fun j v => ∀ i, i < 32 → v.getLsbD i = rightBit (lane 32 a j) k i)
        (exec (.pshifti4R p rd rs1 imm5) s))
    ∧ (k < 32 → WritesLanes s rd 32 (fun j v => ∀ i, i < 32 → v.getLsbD i = arithBit (lane 32 a j) k i)
        (exec (.pshifti4Ra p rd rs1 imm5) s))
    ∧ (s.cfg.xlen = .x64 → k < 64 → WritesLanes s rd 64 (fun j v => ∀ i, i < 64 → v.getLsbD i = leftBit (lane 64 a j) k i)
        (exec (.pshifti8L p rd rs1 imm5) s))
    ∧ (s.cfg.xlen = .x64 → k < 64 → WritesLanes s rd 64 (fun j v => ∀ i, i < 64 → v.getLsbD i = rightBit (lane 64 a j) k i)
        (exec (.pshifti8R p rd rs1 imm5) s))
    ∧ (s.cfg.xlen = .x64 → k < 64 → WritesLanes s rd 64 (fun j v => ∀ i, i < 64 → v.getLsbD i = arithBit (lane 64 a j) k i)
        (exec (.pshifti8Ra p rd rs1 imm5) s))
    ∧ (16 ≤ k → exec (.pshifti2L p rd rs1 imm5) s = .fault (.unspecifiedBehaviour .packedShiftRange))
    ∧ (16 ≤ k → exec (.pshifti2R p rd rs1 imm5) s = .fault (.unspecifiedBehaviour .packedShiftRange))
    ∧ (16 ≤ k → exec (.pshifti2Ra p rd rs1 imm5) s = .fault (.unspecifiedBehaviour .packedShiftRange))

/-- With the guard reading 1, mix.sw.l leaves Rd as [A1 B1 A3 B3 ...] and mix.sw.r as [A2 B2 A4 B4 ...], subwords
counted from the left: in lanes, an odd lane k of Rd is lane k (l) or k-1 (r) of x[Rs1], an even lane k is lane k+1
(l) or k (r) of x[Rs2]; nothing else changes but the advancing pc; mix.4 at XLEN = 64. That first means leftmost is
decision D17 (log 17). (Derived: 48_subword_permutation.md section 2; 92_eei_decisions.md D17.) -/
def Obligations.MixResults : Prop :=
  ∀ (s : State) (p : Pred) (rd rs1 rs2 : Reg), s.pred p = true →
    let a := s.reg s.xlen rs1
    let b := s.reg s.xlen rs2
    (WritesLanes s rd 8 (fun k v => v = if k % 2 = 1 then lane 8 a k else lane 8 b (k + 1))
        (exec (.mix1L p rd rs1 rs2) s))
    ∧ (WritesLanes s rd 8 (fun k v => v = if k % 2 = 1 then lane 8 a (k - 1) else lane 8 b k)
        (exec (.mix1R p rd rs1 rs2) s))
    ∧ (WritesLanes s rd 16 (fun k v => v = if k % 2 = 1 then lane 16 a k else lane 16 b (k + 1))
        (exec (.mix2L p rd rs1 rs2) s))
    ∧ (WritesLanes s rd 16 (fun k v => v = if k % 2 = 1 then lane 16 a (k - 1) else lane 16 b k)
        (exec (.mix2R p rd rs1 rs2) s))
    ∧ (s.cfg.xlen = .x64 → WritesLanes s rd 32 (fun k v => v = if k % 2 = 1 then lane 32 a k else lane 32 b (k + 1))
        (exec (.mix4L p rd rs1 rs2) s))
    ∧ (s.cfg.xlen = .x64 → WritesLanes s rd 32 (fun k v => v = if k % 2 = 1 then lane 32 a (k - 1) else lane 32 b k)
        (exec (.mix4R p rd rs1 rs2) s))

/-- The words 001110 PPP ddddd aaaaa 00000 00 000 000 and ... 100 000 decode to mux.rev and mux.brcst. With the guard
reading 1, byte lane k of Rd becomes byte lane n-1-k of x[Rs1] (rev) or its byte lane 0 (brcst), n being XLEN/8 (R0
still reads 0); nothing else changes but the advancing pc, and neither faults. A second mux.rev of the result restores
the value. The words are the reference encoding's, the spec's own choice D2 (log 2); that neither faults is decision
D49's second treatment, the model's choice: registers hold a value from reset on (log 49). (Derived:
48_subword_permutation.md R273; 48_subword_permutation.md R277; 92_eei_decisions.md D2; 92_eei_decisions.md D49.) -/
def Obligations.MuxReverseBroadcastResults : Prop :=
  ∀ (s : State) (p : Pred) (rd rs1 : Reg),
    let a := s.reg s.xlen rs1
    let n := s.xlen / 8
    decode s.cfg.xlen (word4 0b001110 p rd rs1 0 0 0 0) = .ok (.muxRev p rd rs1)
    ∧ decode s.cfg.xlen (word4 0b001110 p rd rs1 0 0 0b100 0) = .ok (.muxBrcst p rd rs1)
    ∧ (s.pred p = true →
      WritesLanes s rd 8 (fun k v => v = lane 8 a (n - 1 - k)) (exec (.muxRev p rd rs1) s)
      ∧ WritesLanes s rd 8 (fun _ v => v = lane 8 a 0) (exec (.muxBrcst p rd rs1) s)
      ∧ (rd ≠ 0 → ∃ t u, exec (.muxRev p rd rs1) s = .next t ∧ exec (.muxRev p rd rd) t = .next u
        ∧ u.reg s.xlen rd = a))

/-- With the guard reading 1, byte i of Rd from the left becomes the byte of x[Rs1] whose ordinal from the left is
entry i of the table of the form, whatever MUX_TABLE holds; nothing else changes but the advancing pc. MUX_TABLE is
decision D27 (log 27). (Derived: 48_subword_permutation.md section 3; 92_eei_decisions.md D27.) -/
def Obligations.MuxTableResults : Prop :=
  ∀ (s : State) (p : Pred) (rd rs1 : Reg), s.pred p = true →
    let a := s.reg s.xlen rs1
    let n := s.xlen / 8
    let placed := fun (l : List Nat) (k : Nat) (v : BitVec 8) => v = lane 8 a (n - l.getD (n - 1 - k) 0)
    WritesLanes s rd 8 (placed s.cfg.muxTable.mix) (exec (.muxMix p rd rs1) s)
    ∧ WritesLanes s rd 8 (placed s.cfg.muxTable.shuf) (exec (.muxShuf p rd rs1) s)
    ∧ WritesLanes s rd 8 (placed s.cfg.muxTable.alt) (exec (.muxAlt p rd rs1) s)

/-- With the reference tables and the guard reading 1, counting bytes from the left with h = n/2: mux.shuf leaves byte
2j-1 as B(j) and byte 2j as B(h+j); mux.alt leaves byte j as B(2j-1) and byte h+j as B(2j); mux.mix leaves byte 2j-1
as B(2j-1), 2j as B(h+2j-1), h+2j-1 as B(2j), h+2j as B(h+2j); so mux.alt after mux.shuf restores the value. Decision
D27 (log 27). (Derived: 48_subword_permutation.md section 3; 92_eei_decisions.md D27.) -/
def Obligations.MuxReferenceFormulas : Prop :=
  ∀ (s : State) (p : Pred) (rd rs1 : Reg), s.pred p = true → s.cfg.muxTable = MuxTable.reference s.cfg.xlen →
    let a := s.reg s.xlen rs1
    let h := s.xlen / 16
    let byte := fun (f : Nat → Nat) (k : Nat) (v : BitVec 8) => v = ord 8 a (f (2 * h - k))
    WritesLanes s rd 8 (byte fun i => if i % 2 = 1 then (i + 1) / 2 else h + i / 2) (exec (.muxShuf p rd rs1) s)
    ∧ WritesLanes s rd 8 (byte fun i => if i ≤ h then 2 * i - 1 else 2 * (i - h)) (exec (.muxAlt p rd rs1) s)
    ∧ WritesLanes s rd 8
        (byte fun i => if i ≤ h then (if i % 2 = 1 then i else h + i - 1) else if (i - h) % 2 = 1 then i - h + 1 else i)
        (exec (.muxMix p rd rs1) s)
    ∧ (rd ≠ 0 → ∃ t u, exec (.muxShuf p rd rs1) s = .next t ∧ exec (.muxAlt p rd rd) t = .next u
        ∧ u.reg s.xlen rd = a)

/-- With the guard reading 1, n = XLEN/16 and g = log2 n: the selector of result lane k is g-bit group k of the low
bits of x[Rs2] counted from the right (or, where the selectors run the other way, from the left), and the lane becomes
the source subword that the selector names counted from the left (or from the right); the reference layout is left and
left, that is source lane n-1-s. Bits of Rs2 above n·g have no effect, and nothing else changes but the advancing pc.
Decision D26 (log 26). (Derived: 48_subword_permutation.md section 4; 92_eei_decisions.md D26.) -/
def Obligations.PermResult : Prop :=
  ∀ (s : State) (p : Pred) (rd rs1 rs2 : Reg), s.pred p = true →
    let a := s.reg s.xlen rs1
    let c := s.reg s.xlen rs2
    let n := s.xlen / 16
    let g := match s.cfg.xlen with | .x64 => 2 | .x32 => 1
    WritesLanes s rd 16
      (fun k v =>
        let group := match s.cfg.permLayout.selectors with | .left => k | .right => n - 1 - k
        let sel := c.toNat / 2 ^ (g * group) % 2 ^ g
        v = lane 16 a (match s.cfg.permLayout.counting with | .left => n - 1 - sel | .right => sel))
      (exec (.perm p rd rs1 rs2) s)
end

