-- ==== Sys2Proof/Laws/Encoding.lean ====
section
/-! SUPPORT. Fields of placed words: reading a field back from where it was placed (30_encoding.md R84 to R93). -/

namespace Sys2Proof

/-- A field read where it was placed. -/
theorem extract_place_self (lo : Nat) {n : Nat} (v : BitVec n) (h : lo + n ≤ 32) :
    (place lo v).extractLsb' lo n = v := by
  apply BitVec.eq_of_getLsbD_eq
  intro i hi
  have h1 : lo + i < 32 := by omega
  simp [place, hi, h1]

/-- The low part of a field read where it was placed. -/
theorem extract_place_low (lo : Nat) {n : Nat} (v : BitVec n) (l : Nat) (h : l ≤ n) (h' : lo + n ≤ 32) :
    (place lo v).extractLsb' lo l = v.setWidth l := by
  apply BitVec.eq_of_getLsbD_eq
  intro i hi
  have h1 : lo + i < 32 := by omega
  simp [place, hi, h1]

/-- A field read apart from where one was placed. -/
theorem extract_place_apart (lo : Nat) {n : Nat} (v : BitVec n) (s l : Nat) (h : lo + n ≤ s ∨ s + l ≤ lo) :
    (place lo v).extractLsb' s l = 0#l := by
  apply BitVec.eq_of_getLsbD_eq
  intro i hi
  simp only [place, BitVec.getLsbD_extractLsb', BitVec.getLsbD_shiftLeft, BitVec.getLsbD_setWidth,
    BitVec.getLsbD_zero]
  rcases h with h | h
  · rw [BitVec.getLsbD_of_ge v _ (by omega)]; simp
  · have h1 : s + i < lo := by omega
    simp [h1]

/-- A field of a word made of two parts is made of the field of each. -/
theorem extract_or (a b : IWord) (s l : Nat) :
    (a ||| b).extractLsb' s l = a.extractLsb' s l ||| b.extractLsb' s l := by
  apply BitVec.eq_of_getLsbD_eq
  intro i hi
  simp [hi]

/-! ### The fields of each format (30_encoding.md R85 to R93) -/

theorem fOpcode_fmt0 (op : BitVec 6) (p : Pred) (imm23 : BitVec 23) :
    fOpcode (fmt0 op p imm23) = op.toNat := by
  simp [fOpcode, fmt0, header, placePred, extract_or, extract_place_self, extract_place_apart]
theorem fP_fmt0 (op : BitVec 6) (p : Pred) (imm23 : BitVec 23) :
    fP (fmt0 op p imm23) = p := by
  simp [fP, fmt0, header, placePred, extract_or, extract_place_self, extract_place_apart]
theorem fImm23_fmt0 (op : BitVec 6) (p : Pred) (imm23 : BitVec 23) :
    fImm23 (fmt0 op p imm23) = imm23 := by
  simp [fImm23, fmt0, header, placePred, extract_or, extract_place_self, extract_place_apart]

theorem fOpcode_fmt1 (op : BitVec 6) (p : Pred) (rd : Reg) (imm18 : BitVec 18) :
    fOpcode (fmt1 op p rd imm18) = op.toNat := by
  simp [fOpcode, fmt1, header, placeReg, placePred, extract_or, extract_place_self, extract_place_apart]
theorem fP_fmt1 (op : BitVec 6) (p : Pred) (rd : Reg) (imm18 : BitVec 18) :
    fP (fmt1 op p rd imm18) = p := by
  simp [fP, fmt1, header, placeReg, placePred, extract_or, extract_place_self, extract_place_apart]
theorem fRd_fmt1 (op : BitVec 6) (p : Pred) (rd : Reg) (imm18 : BitVec 18) :
    fRd (fmt1 op p rd imm18) = rd := by
  simp [fRd, fmt1, header, placeReg, placePred, extract_or, extract_place_self, extract_place_apart]

theorem fOpcode_fmt2 (op : BitVec 6) (p : Pred) (rd rs1 : Reg) (imm13 : BitVec 13) :
    fOpcode (fmt2 op p rd rs1 imm13) = op.toNat := by
  simp [fOpcode, fmt2, header, placeReg, placePred, extract_or, extract_place_self, extract_place_apart]
theorem fP_fmt2 (op : BitVec 6) (p : Pred) (rd rs1 : Reg) (imm13 : BitVec 13) :
    fP (fmt2 op p rd rs1 imm13) = p := by
  simp [fP, fmt2, header, placeReg, placePred, extract_or, extract_place_self, extract_place_apart]
theorem fRd_fmt2 (op : BitVec 6) (p : Pred) (rd rs1 : Reg) (imm13 : BitVec 13) :
    fRd (fmt2 op p rd rs1 imm13) = rd := by
  simp [fRd, fmt2, header, placeReg, placePred, extract_or, extract_place_self, extract_place_apart]
theorem fRs1_fmt2 (op : BitVec 6) (p : Pred) (rd rs1 : Reg) (imm13 : BitVec 13) :
    fRs1 (fmt2 op p rd rs1 imm13) = rs1 := by
  simp [fRs1, fmt2, header, placeReg, placePred, extract_or, extract_place_self, extract_place_apart]
theorem fImm13_fmt2 (op : BitVec 6) (p : Pred) (rd rs1 : Reg) (imm13 : BitVec 13) :
    fImm13 (fmt2 op p rd rs1 imm13) = imm13 := by
  simp [fImm13, fmt2, header, placeReg, placePred, extract_or, extract_place_self, extract_place_apart]

theorem fOpcode_fmt3 (op : BitVec 6) (p : Pred) (rd rs1 : Reg) (imm7 : BitVec 7) (imm6 : BitVec 6) :
    fOpcode (fmt3 op p rd rs1 imm7 imm6) = op.toNat := by
  simp [fOpcode, fmt3, header, placeReg, placePred, extract_or, extract_place_self, extract_place_apart]
theorem fP_fmt3 (op : BitVec 6) (p : Pred) (rd rs1 : Reg) (imm7 : BitVec 7) (imm6 : BitVec 6) :
    fP (fmt3 op p rd rs1 imm7 imm6) = p := by
  simp [fP, fmt3, header, placeReg, placePred, extract_or, extract_place_self, extract_place_apart]
theorem fRd_fmt3 (op : BitVec 6) (p : Pred) (rd rs1 : Reg) (imm7 : BitVec 7) (imm6 : BitVec 6) :
    fRd (fmt3 op p rd rs1 imm7 imm6) = rd := by
  simp [fRd, fmt3, header, placeReg, placePred, extract_or, extract_place_self, extract_place_apart]
theorem fRs1_fmt3 (op : BitVec 6) (p : Pred) (rd rs1 : Reg) (imm7 : BitVec 7) (imm6 : BitVec 6) :
    fRs1 (fmt3 op p rd rs1 imm7 imm6) = rs1 := by
  simp [fRs1, fmt3, header, placeReg, placePred, extract_or, extract_place_self, extract_place_apart]
theorem fImm7_fmt3 (op : BitVec 6) (p : Pred) (rd rs1 : Reg) (imm7 : BitVec 7) (imm6 : BitVec 6) :
    fImm7 (fmt3 op p rd rs1 imm7 imm6) = imm7 := by
  simp [fImm7, fmt3, header, placeReg, placePred, extract_or, extract_place_self, extract_place_apart]
theorem fImm6_fmt3 (op : BitVec 6) (p : Pred) (rd rs1 : Reg) (imm7 : BitVec 7) (imm6 : BitVec 6) :
    fImm6 (fmt3 op p rd rs1 imm7 imm6) = imm6 := by
  simp [fImm6, fmt3, header, placeReg, placePred, extract_or, extract_place_self, extract_place_apart]

theorem fOpcode_fmt4a (op : BitVec 6) (p : Pred) (rd rs1 rs2 : Reg) (swc : BitVec 2) (var sa : BitVec 3) :
    fOpcode (fmt4a op p rd rs1 rs2 swc var sa) = op.toNat := by
  simp [fOpcode, fmt4a, header, placeReg, placePred, extract_or, extract_place_self, extract_place_apart]
theorem fP_fmt4a (op : BitVec 6) (p : Pred) (rd rs1 rs2 : Reg) (swc : BitVec 2) (var sa : BitVec 3) :
    fP (fmt4a op p rd rs1 rs2 swc var sa) = p := by
  simp [fP, fmt4a, header, placeReg, placePred, extract_or, extract_place_self, extract_place_apart]
theorem fRd_fmt4a (op : BitVec 6) (p : Pred) (rd rs1 rs2 : Reg) (swc : BitVec 2) (var sa : BitVec 3) :
    fRd (fmt4a op p rd rs1 rs2 swc var sa) = rd := by
  simp [fRd, fmt4a, header, placeReg, placePred, extract_or, extract_place_self, extract_place_apart]
theorem fRs1_fmt4a (op : BitVec 6) (p : Pred) (rd rs1 rs2 : Reg) (swc : BitVec 2) (var sa : BitVec 3) :
    fRs1 (fmt4a op p rd rs1 rs2 swc var sa) = rs1 := by
  simp [fRs1, fmt4a, header, placeReg, placePred, extract_or, extract_place_self, extract_place_apart]
theorem fRs2_fmt4a (op : BitVec 6) (p : Pred) (rd rs1 rs2 : Reg) (swc : BitVec 2) (var sa : BitVec 3) :
    fRs2 (fmt4a op p rd rs1 rs2 swc var sa) = rs2 := by
  simp [fRs2, fmt4a, header, placeReg, placePred, extract_or, extract_place_self, extract_place_apart]
theorem fSwc_fmt4a (op : BitVec 6) (p : Pred) (rd rs1 rs2 : Reg) (swc : BitVec 2) (var sa : BitVec 3) :
    fSwc (fmt4a op p rd rs1 rs2 swc var sa) = swc := by
  simp [fSwc, fmt4a, header, placeReg, placePred, extract_or, extract_place_self, extract_place_apart]
theorem fVar_fmt4a (op : BitVec 6) (p : Pred) (rd rs1 rs2 : Reg) (swc : BitVec 2) (var sa : BitVec 3) :
    fVar (fmt4a op p rd rs1 rs2 swc var sa) = var := by
  simp [fVar, fmt4a, header, placeReg, placePred, extract_or, extract_place_self, extract_place_apart]
theorem fSa_fmt4a (op : BitVec 6) (p : Pred) (rd rs1 rs2 : Reg) (swc : BitVec 2) (var sa : BitVec 3) :
    fSa (fmt4a op p rd rs1 rs2 swc var sa) = sa := by
  simp [fSa, fmt4a, header, placeReg, placePred, extract_or, extract_place_self, extract_place_apart]

theorem fOpcode_fmt4b (op : BitVec 6) (p : Pred) (rd rs1 : Reg) (imm5 : BitVec 5) (swc : BitVec 2) (var sa : BitVec 3) :
    fOpcode (fmt4b op p rd rs1 imm5 swc var sa) = op.toNat := by
  simp [fOpcode, fmt4b, header, placeReg, placePred, extract_or, extract_place_self, extract_place_apart]
theorem fP_fmt4b (op : BitVec 6) (p : Pred) (rd rs1 : Reg) (imm5 : BitVec 5) (swc : BitVec 2) (var sa : BitVec 3) :
    fP (fmt4b op p rd rs1 imm5 swc var sa) = p := by
  simp [fP, fmt4b, header, placeReg, placePred, extract_or, extract_place_self, extract_place_apart]
theorem fRd_fmt4b (op : BitVec 6) (p : Pred) (rd rs1 : Reg) (imm5 : BitVec 5) (swc : BitVec 2) (var sa : BitVec 3) :
    fRd (fmt4b op p rd rs1 imm5 swc var sa) = rd := by
  simp [fRd, fmt4b, header, placeReg, placePred, extract_or, extract_place_self, extract_place_apart]
theorem fRs1_fmt4b (op : BitVec 6) (p : Pred) (rd rs1 : Reg) (imm5 : BitVec 5) (swc : BitVec 2) (var sa : BitVec 3) :
    fRs1 (fmt4b op p rd rs1 imm5 swc var sa) = rs1 := by
  simp [fRs1, fmt4b, header, placeReg, placePred, extract_or, extract_place_self, extract_place_apart]
theorem fImm5_fmt4b (op : BitVec 6) (p : Pred) (rd rs1 : Reg) (imm5 : BitVec 5) (swc : BitVec 2) (var sa : BitVec 3) :
    fImm5 (fmt4b op p rd rs1 imm5 swc var sa) = imm5 := by
  simp [fImm5, fmt4b, header, placeReg, placePred, extract_or, extract_place_self, extract_place_apart]
theorem fSwc_fmt4b (op : BitVec 6) (p : Pred) (rd rs1 : Reg) (imm5 : BitVec 5) (swc : BitVec 2) (var sa : BitVec 3) :
    fSwc (fmt4b op p rd rs1 imm5 swc var sa) = swc := by
  simp [fSwc, fmt4b, header, placeReg, placePred, extract_or, extract_place_self, extract_place_apart]
theorem fVar_fmt4b (op : BitVec 6) (p : Pred) (rd rs1 : Reg) (imm5 : BitVec 5) (swc : BitVec 2) (var sa : BitVec 3) :
    fVar (fmt4b op p rd rs1 imm5 swc var sa) = var := by
  simp [fVar, fmt4b, header, placeReg, placePred, extract_or, extract_place_self, extract_place_apart]
theorem fSa_fmt4b (op : BitVec 6) (p : Pred) (rd rs1 : Reg) (imm5 : BitVec 5) (swc : BitVec 2) (var sa : BitVec 3) :
    fSa (fmt4b op p rd rs1 imm5 swc var sa) = sa := by
  simp [fSa, fmt4b, header, placeReg, placePred, extract_or, extract_place_self, extract_place_apart]

theorem fOpcode_fmt4c (op : BitVec 6) (p : Pred) (rd rs1 rs2 : Reg) (imm8 : BitVec 8) :
    fOpcode (fmt4c op p rd rs1 rs2 imm8) = op.toNat := by
  simp [fOpcode, fmt4c, header, placeReg, placePred, extract_or, extract_place_self, extract_place_apart]
theorem fP_fmt4c (op : BitVec 6) (p : Pred) (rd rs1 rs2 : Reg) (imm8 : BitVec 8) :
    fP (fmt4c op p rd rs1 rs2 imm8) = p := by
  simp [fP, fmt4c, header, placeReg, placePred, extract_or, extract_place_self, extract_place_apart]
theorem fRd_fmt4c (op : BitVec 6) (p : Pred) (rd rs1 rs2 : Reg) (imm8 : BitVec 8) :
    fRd (fmt4c op p rd rs1 rs2 imm8) = rd := by
  simp [fRd, fmt4c, header, placeReg, placePred, extract_or, extract_place_self, extract_place_apart]
theorem fRs1_fmt4c (op : BitVec 6) (p : Pred) (rd rs1 rs2 : Reg) (imm8 : BitVec 8) :
    fRs1 (fmt4c op p rd rs1 rs2 imm8) = rs1 := by
  simp [fRs1, fmt4c, header, placeReg, placePred, extract_or, extract_place_self, extract_place_apart]
theorem fRs2_fmt4c (op : BitVec 6) (p : Pred) (rd rs1 rs2 : Reg) (imm8 : BitVec 8) :
    fRs2 (fmt4c op p rd rs1 rs2 imm8) = rs2 := by
  simp [fRs2, fmt4c, header, placeReg, placePred, extract_or, extract_place_self, extract_place_apart]
theorem fImm8c_fmt4c (op : BitVec 6) (p : Pred) (rd rs1 rs2 : Reg) (imm8 : BitVec 8) :
    fImm8c (fmt4c op p rd rs1 rs2 imm8) = imm8 := by
  simp [fImm8c, fmt4c, header, placeReg, placePred, extract_or, extract_place_self, extract_place_apart]

theorem fOpcode_fmt5a (op : BitVec 6) (p : Pred) (rs1 rs2 : Reg) (pa pb : Pred) (rel : BitVec 4) :
    fOpcode (fmt5a op p rs1 rs2 pa pb rel) = op.toNat := by
  simp [fOpcode, fmt5a, header, placeReg, placePred, extract_or, extract_place_self, extract_place_apart]
theorem fP_fmt5a (op : BitVec 6) (p : Pred) (rs1 rs2 : Reg) (pa pb : Pred) (rel : BitVec 4) :
    fP (fmt5a op p rs1 rs2 pa pb rel) = p := by
  simp [fP, fmt5a, header, placeReg, placePred, extract_or, extract_place_self, extract_place_apart]
theorem fRd_fmt5a (op : BitVec 6) (p : Pred) (rs1 rs2 : Reg) (pa pb : Pred) (rel : BitVec 4) :
    fRd (fmt5a op p rs1 rs2 pa pb rel) = rs1 := by
  simp [fRd, fmt5a, header, placeReg, placePred, extract_or, extract_place_self, extract_place_apart]
theorem fRs1_fmt5a (op : BitVec 6) (p : Pred) (rs1 rs2 : Reg) (pa pb : Pred) (rel : BitVec 4) :
    fRs1 (fmt5a op p rs1 rs2 pa pb rel) = rs2 := by
  simp [fRs1, fmt5a, header, placeReg, placePred, extract_or, extract_place_self, extract_place_apart]
theorem fPa_fmt5a (op : BitVec 6) (p : Pred) (rs1 rs2 : Reg) (pa pb : Pred) (rel : BitVec 4) :
    fPa (fmt5a op p rs1 rs2 pa pb rel) = pa := by
  simp [fPa, fmt5a, header, placeReg, placePred, extract_or, extract_place_self, extract_place_apart]
theorem fPb_fmt5a (op : BitVec 6) (p : Pred) (rs1 rs2 : Reg) (pa pb : Pred) (rel : BitVec 4) :
    fPb (fmt5a op p rs1 rs2 pa pb rel) = pb := by
  simp [fPb, fmt5a, header, placeReg, placePred, extract_or, extract_place_self, extract_place_apart]
theorem fLow4_fmt5a (op : BitVec 6) (p : Pred) (rs1 rs2 : Reg) (pa pb : Pred) (rel : BitVec 4) :
    fLow4 (fmt5a op p rs1 rs2 pa pb rel) = rel := by
  simp [fLow4, fmt5a, header, placeReg, placePred, extract_or, extract_place_self, extract_place_apart]

theorem fOpcode_fmt5b (op : BitVec 6) (p : Pred) (rs1 : Reg) (imm8 : BitVec 8) (pa pb : Pred) (imm4 : BitVec 4) :
    fOpcode (fmt5b op p rs1 imm8 pa pb imm4) = op.toNat := by
  simp [fOpcode, fmt5b, header, placeReg, placePred, extract_or, extract_place_self, extract_place_apart]
theorem fP_fmt5b (op : BitVec 6) (p : Pred) (rs1 : Reg) (imm8 : BitVec 8) (pa pb : Pred) (imm4 : BitVec 4) :
    fP (fmt5b op p rs1 imm8 pa pb imm4) = p := by
  simp [fP, fmt5b, header, placeReg, placePred, extract_or, extract_place_self, extract_place_apart]
theorem fRd_fmt5b (op : BitVec 6) (p : Pred) (rs1 : Reg) (imm8 : BitVec 8) (pa pb : Pred) (imm4 : BitVec 4) :
    fRd (fmt5b op p rs1 imm8 pa pb imm4) = rs1 := by
  simp [fRd, fmt5b, header, placeReg, placePred, extract_or, extract_place_self, extract_place_apart]
theorem fImm8_fmt5b (op : BitVec 6) (p : Pred) (rs1 : Reg) (imm8 : BitVec 8) (pa pb : Pred) (imm4 : BitVec 4) :
    fImm8 (fmt5b op p rs1 imm8 pa pb imm4) = imm8 := by
  simp [fImm8, fmt5b, header, placeReg, placePred, extract_or, extract_place_self, extract_place_apart]
theorem fPa_fmt5b (op : BitVec 6) (p : Pred) (rs1 : Reg) (imm8 : BitVec 8) (pa pb : Pred) (imm4 : BitVec 4) :
    fPa (fmt5b op p rs1 imm8 pa pb imm4) = pa := by
  simp [fPa, fmt5b, header, placeReg, placePred, extract_or, extract_place_self, extract_place_apart]
theorem fPb_fmt5b (op : BitVec 6) (p : Pred) (rs1 : Reg) (imm8 : BitVec 8) (pa pb : Pred) (imm4 : BitVec 4) :
    fPb (fmt5b op p rs1 imm8 pa pb imm4) = pb := by
  simp [fPb, fmt5b, header, placeReg, placePred, extract_or, extract_place_self, extract_place_apart]
theorem fLow4_fmt5b (op : BitVec 6) (p : Pred) (rs1 : Reg) (imm8 : BitVec 8) (pa pb : Pred) (imm4 : BitVec 4) :
    fLow4 (fmt5b op p rs1 imm8 pa pb imm4) = imm4 := by
  simp [fLow4, fmt5b, header, placeReg, placePred, extract_or, extract_place_self, extract_place_apart]

/-- A table decodes a word only to the instruction it lists for it, and only where that exists at the register size. -/
theorem decodeUnder_table_ok {rows : List (IWord × Instr)} {x : Xlen} {w : IWord} {i : Instr}
    (h : decodeUnder (.table rows) x w = .ok i) : lookupWord rows w = some i ∧ i.wf x = true := by
  simp only [decodeUnder] at h
  split at h
  · rename_i j hj
    split at h
    · rename_i hw
      cases h
      exact ⟨hj, hw⟩
    · cases h
  · cases h

end Sys2Proof
end

