-- ==== Sys2Proof/Laws/State.lean ====
section
/-! SUPPORT. One lemma per field of State per update, and the accessors after each update, so that no proof unfolds a
record update. -/

namespace Sys2Proof.Machine
open Sys2Proof

/-! ### setPc, advance, jumpBy -/

section Pc
variable (s : State) {N : Nat} (v : BitVec N)

@[simp] theorem State.setPc_cfg : (s.setPc v).cfg = s.cfg := rfl
@[simp] theorem State.setPc_gpr : (s.setPc v).gpr = s.gpr := rfl
@[simp] theorem State.setPc_pc : (s.setPc v).pc = v.setWidth 64 := rfl
@[simp] theorem State.setPc_ps : (s.setPc v).ps = s.ps := rfl
@[simp] theorem State.setPc_aps : (s.setPc v).aps = s.aps := rfl
@[simp] theorem State.setPc_halted : (s.setPc v).halted = s.halted := rfl
@[simp] theorem State.setPc_mem : (s.setPc v).mem = s.mem := rfl
@[simp] theorem State.setPc_xlen : (s.setPc v).xlen = s.xlen := rfl
@[simp] theorem State.setPc_reg (M : Nat) (r : Reg) : (s.setPc v).reg M r = s.reg M r := rfl
@[simp] theorem State.setPc_pred (i : Pred) : (s.setPc v).pred i = s.pred i := rfl
@[simp] theorem State.setPc_readByte (a : Nat) : (s.setPc v).readByte a = s.readByte a := rfl

@[simp] theorem State.advance_cfg : s.advance.cfg = s.cfg := rfl
@[simp] theorem State.advance_gpr : s.advance.gpr = s.gpr := rfl
@[simp] theorem State.advance_ps : s.advance.ps = s.ps := rfl
@[simp] theorem State.advance_aps : s.advance.aps = s.aps := rfl
@[simp] theorem State.advance_halted : s.advance.halted = s.halted := rfl
@[simp] theorem State.advance_mem : s.advance.mem = s.mem := rfl
@[simp] theorem State.advance_xlen : s.advance.xlen = s.xlen := rfl
@[simp] theorem State.advance_reg (M : Nat) (r : Reg) : s.advance.reg M r = s.reg M r := rfl
@[simp] theorem State.advance_pred (i : Pred) : s.advance.pred i = s.pred i := rfl
@[simp] theorem State.advance_readByte (a : Nat) : s.advance.readByte a = s.readByte a := rfl

variable (o : BitVec s.xlen)

@[simp] theorem State.jumpBy_cfg : (s.jumpBy o).cfg = s.cfg := rfl
@[simp] theorem State.jumpBy_gpr : (s.jumpBy o).gpr = s.gpr := rfl
@[simp] theorem State.jumpBy_ps : (s.jumpBy o).ps = s.ps := rfl
@[simp] theorem State.jumpBy_aps : (s.jumpBy o).aps = s.aps := rfl
@[simp] theorem State.jumpBy_halted : (s.jumpBy o).halted = s.halted := rfl
@[simp] theorem State.jumpBy_mem : (s.jumpBy o).mem = s.mem := rfl
@[simp] theorem State.jumpBy_xlen : (s.jumpBy o).xlen = s.xlen := rfl
@[simp] theorem State.jumpBy_reg (M : Nat) (r : Reg) : (s.jumpBy o).reg M r = s.reg M r := rfl
@[simp] theorem State.jumpBy_readByte (a : Nat) : (s.jumpBy o).readByte a = s.readByte a := rfl

end Pc

/-! ### halt -/

section Halt
variable (s : State)

@[simp] theorem State.halt_cfg : s.halt.cfg = s.cfg := rfl
@[simp] theorem State.halt_gpr : s.halt.gpr = s.gpr := rfl
@[simp] theorem State.halt_pc : s.halt.pc = s.pc := rfl
@[simp] theorem State.halt_ps : s.halt.ps = s.ps := rfl
@[simp] theorem State.halt_aps : s.halt.aps = s.aps := rfl
@[simp] theorem State.halt_halted : s.halt.halted = true := rfl
@[simp] theorem State.halt_mem : s.halt.mem = s.mem := rfl
@[simp] theorem State.halt_xlen : s.halt.xlen = s.xlen := rfl
@[simp] theorem State.halt_reg (M : Nat) (r : Reg) : s.halt.reg M r = s.reg M r := rfl
@[simp] theorem State.halt_readByte (a : Nat) : s.halt.readByte a = s.readByte a := rfl

end Halt

/-! ### setAps, loadPreds -/

section Sets
variable (s : State) (k : PredSet) (b : BitVec 8)

@[simp] theorem State.setAps_cfg : (s.setAps k).cfg = s.cfg := rfl
@[simp] theorem State.setAps_gpr : (s.setAps k).gpr = s.gpr := rfl
@[simp] theorem State.setAps_pc : (s.setAps k).pc = s.pc := rfl
@[simp] theorem State.setAps_ps : (s.setAps k).ps = s.ps := rfl
@[simp] theorem State.setAps_aps : (s.setAps k).aps = k := rfl
@[simp] theorem State.setAps_halted : (s.setAps k).halted = s.halted := rfl
@[simp] theorem State.setAps_mem : (s.setAps k).mem = s.mem := rfl
@[simp] theorem State.setAps_xlen : (s.setAps k).xlen = s.xlen := rfl
@[simp] theorem State.setAps_pcv (M : Nat) : (s.setAps k).pcv M = s.pcv M := rfl
@[simp] theorem State.setAps_reg (M : Nat) (r : Reg) : (s.setAps k).reg M r = s.reg M r := rfl
@[simp] theorem State.setAps_readByte (a : Nat) : (s.setAps k).readByte a = s.readByte a := rfl

@[simp] theorem State.loadPreds_cfg : (s.loadPreds b).cfg = s.cfg := rfl
@[simp] theorem State.loadPreds_gpr : (s.loadPreds b).gpr = s.gpr := rfl
@[simp] theorem State.loadPreds_pc : (s.loadPreds b).pc = s.pc := rfl
@[simp] theorem State.loadPreds_ps :
    (s.loadPreds b).ps = s.ps.set s.aps.val (b.extractLsb' 1 7) s.aps.isLt := rfl
@[simp] theorem State.loadPreds_aps : (s.loadPreds b).aps = s.aps := rfl
@[simp] theorem State.loadPreds_halted : (s.loadPreds b).halted = s.halted := rfl
@[simp] theorem State.loadPreds_mem : (s.loadPreds b).mem = s.mem := rfl
@[simp] theorem State.loadPreds_xlen : (s.loadPreds b).xlen = s.xlen := rfl
@[simp] theorem State.loadPreds_pcv (M : Nat) : (s.loadPreds b).pcv M = s.pcv M := rfl
@[simp] theorem State.loadPreds_reg (M : Nat) (r : Reg) : (s.loadPreds b).reg M r = s.reg M r := rfl
@[simp] theorem State.loadPreds_readByte (a : Nat) : (s.loadPreds b).readByte a = s.readByte a := rfl

end Sets

/-! ### setReg: writing R0 is the identity, so each lemma splits on that once -/

section Regs
variable (s : State) (r : Reg) {N : Nat} (v : BitVec N)

@[simp] theorem State.setReg_cfg : (s.setReg r v).cfg = s.cfg := by unfold State.setReg; split <;> rfl
@[simp] theorem State.setReg_pc : (s.setReg r v).pc = s.pc := by unfold State.setReg; split <;> rfl
@[simp] theorem State.setReg_ps : (s.setReg r v).ps = s.ps := by unfold State.setReg; split <;> rfl
@[simp] theorem State.setReg_aps : (s.setReg r v).aps = s.aps := by unfold State.setReg; split <;> rfl
@[simp] theorem State.setReg_halted : (s.setReg r v).halted = s.halted := by unfold State.setReg; split <;> rfl
@[simp] theorem State.setReg_mem : (s.setReg r v).mem = s.mem := by unfold State.setReg; split <;> rfl
@[simp] theorem State.setReg_xlen : (s.setReg r v).xlen = s.xlen := by unfold State.xlen; rw [State.setReg_cfg]
@[simp] theorem State.setReg_pcv (M : Nat) : (s.setReg r v).pcv M = s.pcv M := by
  unfold State.pcv; rw [State.setReg_pc]
@[simp] theorem State.setReg_pred (i : Pred) : (s.setReg r v).pred i = s.pred i := by
  unfold State.setReg; split <;> rfl
@[simp] theorem State.setReg_readByte (a : Nat) : (s.setReg r v).readByte a = s.readByte a := by
  unfold State.setReg; split <;> rfl
@[simp] theorem State.setReg_zero : s.setReg 0 v = s := by simp [State.setReg]

/-- The cell of a register other than the one written is unchanged. -/
theorem State.setReg_gpr_of_ne {q : Reg} (h : q ≠ r) : (s.setReg r v).gpr[q.val] = s.gpr[q.val] := by
  unfold State.setReg
  split
  · rfl
  · exact Vector.getElem_set_ne r.isLt q.isLt (fun e => h (Fin.ext e.symm))

/-- The cell of the written register, unless it is R0. -/
theorem State.setReg_gpr_self (h : r ≠ 0) : (s.setReg r v).gpr[r.val] = v.setWidth 64 := by
  simp [State.setReg, h]

end Regs

/-- R0 reads 0 in every state (10_state.md R21). -/
@[simp] theorem State.reg_zero (s : State) (N : Nat) : s.reg N 0 = 0#N := by simp [State.reg]

/-- Reading a register other than the one written. -/
theorem State.reg_setReg_of_ne (s : State) {q r : Reg} {N : Nat} (v : BitVec N) (M : Nat) (h : q ≠ r) :
    (s.setReg r v).reg M q = s.reg M q := by
  unfold State.reg
  rw [State.setReg_gpr_of_ne s r v h]

/-- Reading the written register gives the value written, or 0 for R0, where the value fits a cell. -/
theorem State.reg_setReg_self (s : State) (r : Reg) {N : Nat} (v : BitVec N) (h : N ≤ 64) :
    (s.setReg r v).reg N r = if r = 0 then 0#N else v := by
  by_cases h0 : r = 0
  · subst h0; simp
  · simp only [State.reg, h0, if_false, State.setReg_gpr_self s r v h0]
    exact BitVec.setWidth_setWidth_of_le v h |>.trans (BitVec.setWidth_eq v)

/-! ### setPred -/

section Preds
variable (s : State) (i : Pred) (b : Bool)

@[simp] theorem State.setPred_cfg : (s.setPred i b).cfg = s.cfg := by unfold State.setPred; split <;> rfl
@[simp] theorem State.setPred_gpr : (s.setPred i b).gpr = s.gpr := by unfold State.setPred; split <;> rfl
@[simp] theorem State.setPred_pc : (s.setPred i b).pc = s.pc := by unfold State.setPred; split <;> rfl
@[simp] theorem State.setPred_aps : (s.setPred i b).aps = s.aps := by unfold State.setPred; split <;> rfl
@[simp] theorem State.setPred_halted : (s.setPred i b).halted = s.halted := by unfold State.setPred; split <;> rfl
@[simp] theorem State.setPred_mem : (s.setPred i b).mem = s.mem := by unfold State.setPred; split <;> rfl
@[simp] theorem State.setPred_xlen : (s.setPred i b).xlen = s.xlen := by unfold State.xlen; rw [State.setPred_cfg]
@[simp] theorem State.setPred_pcv (M : Nat) : (s.setPred i b).pcv M = s.pcv M := by
  unfold State.pcv; rw [State.setPred_pc]
@[simp] theorem State.setPred_reg (M : Nat) (r : Reg) : (s.setPred i b).reg M r = s.reg M r := by
  unfold State.setPred; split <;> rfl
@[simp] theorem State.setPred_readByte (a : Nat) : (s.setPred i b).readByte a = s.readByte a := by
  unfold State.setPred; split <;> rfl

/-- The sets other than the active one are unchanged. -/
theorem State.setPred_ps_of_ne {k : PredSet} (h : k ≠ s.aps) : (s.setPred i b).ps[k.val] = s.ps[k.val] := by
  unfold State.setPred
  split
  · rfl
  · exact Vector.getElem_set_ne s.aps.isLt k.isLt (fun e => h (Fin.ext e.symm))

end Preds

/-- P0 reads 1 in every state (10_state.md R30). -/
@[simp] theorem State.pred_zero (s : State) : s.pred 0 = true := by simp [State.pred]

/-- Bit j of a set with bit k replaced. -/
theorem getLsbD_withBit (v : BitVec 7) (k j : Nat) (b : Bool) (hj : j < 7) :
    (withBit v k b).getLsbD j = if j = k then b else v.getLsbD j := by
  unfold withBit
  by_cases h : j = k
  · subst h; simp [hj]
  · by_cases hk : j < k
    · simp [h, hk, hj]
    · have : j - k ≠ 0 := by omega
      simp [h, hk, hj, this]

/-- What every predicate of the active set reads after a predicate write (10_state.md R30). -/
theorem State.pred_setPred (s : State) (i j : Pred) (b : Bool) :
    (s.setPred i b).pred j = if j = 0 then true else if j = i then b else s.pred j := by
  by_cases hj : j = 0
  · subst hj; simp
  · by_cases hi : i = 0
    · subst hi; simp [State.setPred, hj]
    · have hj' : j.val ≠ 0 := fun e => hj (Fin.ext e)
      have hi' : i.val ≠ 0 := fun e => hi (Fin.ext e)
      have hlt : j.val - 1 < 7 := by have := j.isLt; omega
      have hk : (j.val - 1 = i.val - 1) ↔ j = i := ⟨fun e => Fin.ext (by omega), fun e => by rw [e]⟩
      simp only [State.pred, State.setPred, hi, hj, if_false, Vector.getElem_set_self,
        getLsbD_withBit _ _ _ _ hlt, hk]

end Sys2Proof.Machine
end

