-- ==== Sys2Proof/Laws/Memory.lean ====
section
/-! SUPPORT. Memory: reading after writing, and the canonical form kept by every memory operation. -/

namespace Sys2Proof.Machine
open Sys2Proof

/-! ### Reading after writing -/

theorem Memory.read_write (m : List Host.Cell) (a b : Nat) (v : Byte) :
    Memory.read (Memory.write m a v) b = if b = a then some v else Memory.read m b := by
  induction m with
  | nil => simp only [Memory.write, Memory.read]
  | cons c m ih =>
    simp only [Memory.write]
    split
    · simp only [Memory.read]
    · split
      · rename_i h; subst h
        simp only [Memory.read]; split <;> rfl
      · rename_i h
        simp only [Memory.read, ih]
        by_cases hb : b = c.1
        · simp [hb, Ne.symm h]
        · simp [hb]

/-- Bytes outside the run written are unchanged. -/
theorem Memory.read_writeBytes_outside (bs : List Byte) (m : List Host.Cell) (a b : Nat)
    (h : b < a ∨ a + bs.length ≤ b) : Memory.read (Memory.writeBytes m a bs) b = Memory.read m b := by
  induction bs generalizing m a with
  | nil => rfl
  | cons v bs ih =>
    simp only [List.length_cons] at h
    rw [Memory.writeBytes, ih _ _ (by omega), Memory.read_write]
    exact if_neg (by omega)

/-- Byte i of the run written reads as the i-th byte of the list. -/
theorem Memory.read_writeBytes_inside (bs : List Byte) (m : List Host.Cell) (a i : Nat) (h : i < bs.length) :
    Memory.read (Memory.writeBytes m a bs) (a + i) = some bs[i] := by
  induction bs generalizing m a i with
  | nil => simp at h
  | cons v bs ih =>
    rw [Memory.writeBytes]
    cases i with
    | zero => rw [Memory.read_writeBytes_outside _ _ _ _ (by omega), Memory.read_write]; simp
    | succ i =>
      have := ih (Memory.write m a v) (a + 1) i (by simpa using h)
      rw [show a + (i + 1) = a + 1 + i by omega, this]
      simp

/-! ### The canonical form -/

theorem Memory.mem_write (m : List Host.Cell) (a : Nat) (v : Byte) (c : Host.Cell)
    (h : c ∈ Memory.write m a v) : c = (a, v) ∨ c ∈ m := by
  induction m with
  | nil => simpa [Memory.write] using h
  | cons d m ih =>
    unfold Memory.write at h
    split at h
    · simpa using h
    · split at h
      · rcases List.mem_cons.mp h with h | h
        · exact .inl h
        · exact .inr (List.mem_cons_of_mem _ h)
      · rcases List.mem_cons.mp h with h | h
        · exact .inr (h ▸ List.mem_cons_self)
        · rcases ih h with h | h
          · exact .inl h
          · exact .inr (List.mem_cons_of_mem _ h)

theorem Memory.wf_cons (c : Host.Cell) (m : List Host.Cell) :
    Memory.wf (c :: m) = true ↔ (∀ d ∈ m, c.1 < d.1) ∧ Memory.wf m = true := by
  simp [Memory.wf]

theorem Memory.wf_write (m : List Host.Cell) (a : Nat) (v : Byte) (h : Memory.wf m = true) :
    Memory.wf (Memory.write m a v) = true := by
  induction m with
  | nil => simp [Memory.write, Memory.wf]
  | cons c m ih =>
    have hc := (Memory.wf_cons c m).mp h
    unfold Memory.write
    split
    · rename_i hlt
      refine (Memory.wf_cons _ _).mpr ⟨fun d hd => ?_, h⟩
      rcases List.mem_cons.mp hd with hd | hd
      · subst hd; exact hlt
      · exact Nat.lt_trans hlt (hc.1 d hd)
    · split
      · rename_i heq
        exact (Memory.wf_cons _ _).mpr ⟨fun d hd => heq ▸ hc.1 d hd, hc.2⟩
      · refine (Memory.wf_cons _ _).mpr ⟨fun d hd => ?_, ih hc.2⟩
        rcases Memory.mem_write m a v d hd with hd | hd
        · subst hd; simp only; omega
        · exact hc.1 d hd

theorem Memory.wf_writeBytes (bs : List Byte) (m : List Host.Cell) (a : Nat) (h : Memory.wf m = true) :
    Memory.wf (Memory.writeBytes m a bs) = true := by
  induction bs generalizing m a with
  | nil => exact h
  | cons v bs ih => exact ih _ _ (Memory.wf_write m a v h)

/-- Every cell after a write is an old one or one of the bytes written. -/
theorem Memory.mem_writeBytes (bs : List Byte) (m : List Host.Cell) (a : Nat) (c : Host.Cell)
    (h : c ∈ Memory.writeBytes m a bs) : (a ≤ c.1 ∧ c.1 < a + bs.length) ∨ c ∈ m := by
  induction bs generalizing m a with
  | nil => exact .inr h
  | cons v bs ih =>
    rcases ih _ _ h with h | h
    · exact .inl (by simp only [List.length_cons]; omega)
    · rcases Memory.mem_write m a v c h with h | h
      · subst h; exact .inl (by simp)
      · exact .inr h

theorem Memory.wf_reset : Memory.wf State.reset.mem = true := rfl

/-! ### Bytes of values -/

@[simp] theorem length_lowBytes {m : Nat} (v : BitVec m) (n : Nat) : (lowBytes v n).length = n := by
  induction n with
  | zero => rfl
  | succ n ih => simp [lowBytes, ih]

@[simp] theorem length_valueBytes (o : ByteOrder) {m : Nat} (v : BitVec m) (n : Nat) :
    (valueBytes o v n).length = n := by cases o <;> simp [valueBytes]

theorem getElem_lowBytes {m : Nat} (v : BitVec m) (n i : Nat) (h : i < (lowBytes v n).length) :
    (lowBytes v n)[i] = v.extractLsb' (8 * i) 8 := by
  induction n with
  | zero => simp at h
  | succ n ih =>
    simp only [lowBytes, List.getElem_append, length_lowBytes]
    split
    · exact ih _
    · have : i = n := by simp at h; omega
      subst this; simp

/-- Byte i of a stored value: bits 8i of it in little order, bits 8(n-1-i) in big order (20_memory.md R53). -/
theorem getElem_valueBytes (o : ByteOrder) {m : Nat} (v : BitVec m) (n i : Nat)
    (h : i < (valueBytes o v n).length) :
    (valueBytes o v n)[i] = v.extractLsb' (8 * (match o with | .little => i | .big => n - 1 - i)) 8 := by
  cases o with
  | little => exact getElem_lowBytes v n i _
  | big => simp [valueBytes, getElem_lowBytes]

@[simp] theorem State.length_loadBytes (s : State) (a n : Nat) : (s.loadBytes a n).length = n := by
  induction n generalizing a with
  | zero => rfl
  | succ n ih => simp [State.loadBytes, ih]

theorem State.getElem_loadBytes (s : State) (a n i : Nat) (h : i < (s.loadBytes a n).length) :
    (s.loadBytes a n)[i] = s.loadByte (a + i) := by
  induction n generalizing a i with
  | zero => simp at h
  | succ n ih =>
    cases i with
    | zero => rfl
    | succ i =>
      simp only [State.loadBytes, List.getElem_cons_succ]
      rw [ih, show a + 1 + i = a + (i + 1) by omega]

/-! ### The checks of an access -/

/-- No address is reported exactly when all are mapped. -/
theorem firstUnmapped_none (c : Config) (a n : Nat) :
    firstUnmapped c a n = none ↔ ∀ i, i < n → c.mapped (a + i) = true := by
  induction n generalizing a with
  | zero => simp [firstUnmapped]
  | succ n ih =>
    unfold firstUnmapped
    by_cases h : c.mapped a = true
    · rw [if_pos h, ih]
      constructor
      · intro H i hi
        cases i with
        | zero => simpa using h
        | succ i => have := H i (by omega); rwa [show a + 1 + i = a + (i + 1) by omega] at this
      · intro H i hi
        have := H (i + 1) (by omega)
        rwa [show a + (i + 1) = a + 1 + i by omega] at this
    · rw [if_neg h]
      simp only [reduceCtorEq, false_iff]
      exact fun H => h (by simpa using H 0 (by omega))

/-- No address is reported exactly when all have a value. -/
theorem firstUnwritten_none (s : State) (a n : Nat) :
    firstUnwritten s a n = none ↔ ∀ i, i < n → (s.readByte (a + i)).isSome = true := by
  induction n generalizing a with
  | zero => simp [firstUnwritten]
  | succ n ih =>
    unfold firstUnwritten
    by_cases h : (s.readByte a).isSome = true
    · rw [if_pos h, ih]
      constructor
      · intro H i hi
        cases i with
        | zero => simpa using h
        | succ i => have := H i (by omega); rwa [show a + 1 + i = a + (i + 1) by omega] at this
      · intro H i hi
        have := H (i + 1) (by omega)
        rwa [show a + (i + 1) = a + 1 + i by omega] at this
    · rw [if_neg h]
      simp only [reduceCtorEq, false_iff]
      exact fun H => h (by simpa using H 0 (by omega))

/-- No byte touches TEXT exactly when none lies in it. -/
theorem touchesText_false (c : Config) (a n : Nat) :
    touchesText c a n = false ↔ ∀ i, i < n → c.inText (a + i) = false := by
  induction n generalizing a with
  | zero => simp [touchesText]
  | succ n ih =>
    simp only [touchesText, Bool.or_eq_false_iff, ih]
    constructor
    · rintro ⟨h0, H⟩ i hi
      cases i with
      | zero => simpa using h0
      | succ i => have := H i (by omega); rwa [show a + 1 + i = a + (i + 1) by omega] at this
    · intro H
      refine ⟨by simpa using H 0 (by omega), fun i hi => ?_⟩
      have := H (i + 1) (by omega)
      rwa [show a + (i + 1) = a + 1 + i by omega] at this

/-- An access is admitted exactly when it is aligned and all of its bytes are mapped (20_memory.md R55, R59). -/
theorem accessFault?_none {N : Nat} (c : Config) (ea : BitVec N) (n : Nat) :
    accessFault? c ea n = none ↔ ea.toNat % n = 0 ∧ ∀ i, i < n → c.mapped (ea.toNat + i) = true := by
  unfold accessFault?
  split
  · rename_i h; simp [h]
  · rename_i h
    simp only [Option.map_eq_none_iff, firstUnmapped_none]
    exact ⟨fun H => ⟨by omega, H⟩, fun H => H.2⟩

/-! ### What the two primitives can do -/

/-- `MemRead` answers a value only for an admitted access, and then the value its bytes spell. -/
theorem State.memRead_ok {s : State} {N : Nat} {ea : BitVec N} {n : Nat} {v : BitVec (8 * n)}
    (h : s.memRead ea n = .ok v) :
    accessFault? s.cfg ea n = none
      ∧ v = BitVec.ofNat (8 * n) (bytesToNat s.cfg.byteOrder (s.loadBytes ea.toNat n)) := by
  unfold State.memRead at h
  split at h
  · cases h
  · rename_i hn
    exact ⟨hn, by injection h with h; exact h.symm⟩

/-- `MemWrite` answers a state only for an admitted access outside TEXT, and then only memory has changed. -/
theorem State.memWrite_ok {s t : State} {N m : Nat} {ea : BitVec N} {n : Nat} {v : BitVec m}
    (h : s.memWrite ea n v = .ok t) :
    accessFault? s.cfg ea n = none ∧ touchesText s.cfg ea.toNat n = false
      ∧ t = { s with mem := Memory.writeBytes s.mem ea.toNat (valueBytes s.cfg.byteOrder v n) } := by
  unfold State.memWrite at h
  split at h
  · cases h
  · rename_i hn
    split at h
    · cases h
    · rename_i ht
      exact ⟨hn, by simpa using ht, by injection h with h; exact h.symm⟩

end Sys2Proof.Machine
end

