-- ==== Sys2Proof/Laws/Ops.lean ====
section
/-! SUPPORT. One lemma per shared operation that says everything it can do: "if it answers next t, then …". -/

namespace Sys2Proof.Machine
open Sys2Proof

/-- XLEN is 32 or 64 (00_scope.md R3). -/
theorem State.xlen_cases (s : State) : s.xlen = 32 ∨ s.xlen = 64 := by
  unfold State.xlen Xlen.bits
  cases s.cfg.xlen
  · exact .inl rfl
  · exact .inr rfl

theorem State.xlen_le (s : State) : s.xlen ≤ 64 := by rcases s.xlen_cases with h | h <;> omega

theorem State.xlen_ge (s : State) : 32 ≤ s.xlen := by rcases s.xlen_cases with h | h <;> omega

/-- A guarded body that answers a next state ran, or was nullified (10_state.md R31). -/
theorem guarded_next {p : Pred} {s t : State} {body : Result} (h : guarded p s body = .next t) :
    (s.pred p = true ∧ body = .next t) ∨ (s.pred p = false ∧ t = s.advance) := by
  unfold guarded at h
  split at h
  · exact .inl ⟨by assumption, h⟩
  · rename_i hp
    exact .inr ⟨by simpa using hp, by injection h with h; exact h.symm⟩

/-- A guard that reads 1 runs the body. -/
theorem guarded_of_true {p : Pred} {s : State} (body : Result) (h : s.pred p = true) : guarded p s body = body := by
  simp [guarded, h]

/-- A guard that reads 0 nullifies. -/
theorem guarded_of_false {p : Pred} {s : State} (body : Result) (h : s.pred p = false) :
    guarded p s body = .next s.advance := by simp [guarded, h]

/-- A sized body that answers a next state has a size that exists, and ran. -/
theorem sized_next {w : Nat} {s t : State} {body : Result} (h : sized w s body = .next t) :
    w ≤ s.xlen ∧ body = .next t := by
  unfold sized at h
  split at h
  · exact ⟨by assumption, h⟩
  · cases h

/-- A size that exists runs the body. -/
theorem sized_of_le {w : Nat} {s : State} (body : Result) (h : w ≤ s.xlen) : sized w s body = body := by
  simp [sized, h]

/-- Sizes up to 32 bits exist at both register sizes (30_encoding.md R105). -/
theorem sized_of_le_32 {w : Nat} {s : State} (body : Result) (h : w ≤ 32) : sized w s body = body :=
  sized_of_le body (le_trans h s.xlen_ge)

theorem finish_next {s t : State} (h : finish s = .next t) : t = s.advance := by
  unfold finish at h; injection h with h; exact h.symm

theorem writeReg_next {s t : State} {rd : Reg} {N : Nat} {v : BitVec N} (h : writeReg s rd v = .next t) :
    t = (s.setReg rd v).advance := finish_next h

theorem unspecified_not_next {c : UnspecifiedCase} {t : State} : unspecified c ≠ .next t := by simp [unspecified]

/-- The pc after an advance (10_state.md R26), at the machine's register size. -/
theorem State.pcv_advance (s : State) {N : Nat} (h : N = s.xlen) : s.advance.pcv N = s.pcv N + 4#N := by
  subst h
  unfold State.advance State.setPc State.pcv
  exact (BitVec.setWidth_setWidth_of_le _ s.xlen_le).trans (BitVec.setWidth_eq _)

/-- The pc after `pc <- v`. -/
theorem State.pcv_setPc (s : State) {N : Nat} (v : BitVec N) (h : N ≤ 64) : (s.setPc v).pcv N = v := by
  unfold State.setPc State.pcv
  exact (BitVec.setWidth_setWidth_of_le _ h).trans (BitVec.setWidth_eq _)

/-- The pc after a jump (40_flow_control.md R120). -/
theorem State.pcv_jumpBy (s : State) (o : BitVec s.xlen) : (s.jumpBy o).pcv s.xlen = s.pcv s.xlen + o :=
  s.pcv_setPc _ s.xlen_le

/-- A next state of an instruction that writes one register is that write and nothing else. -/
theorem writesOnly_writeReg (s : State) (rd : Reg) (v : BitVec s.xlen) : WritesOnly s rd v (writeReg s rd v) := by
  refine ⟨(s.setReg rd v).advance, rfl, ?_, ?_, ⟨by simp, by simp⟩, fun a => by simp, ⟨by simp, by simp⟩, ?_⟩
  · rw [State.advance_reg, State.reg_setReg_self s rd v s.xlen_le]
  · intro r hr
    rw [State.advance_reg, State.reg_setReg_of_ne s v _ (by simpa using hr)]
  · exact ((s.setReg rd v).pcv_advance (by simp)).trans (by simp)

/-- A nullified instruction only advances the pc. -/
theorem onlyAdvances_advance (s : State) : OnlyAdvances s (.next s.advance) :=
  ⟨s.advance, rfl, fun r _ => by simp, ⟨by simp, by simp⟩, fun a => by simp, ⟨by simp, by simp⟩, s.pcv_advance rfl⟩

/-- A fetch answers a word only from an aligned pc whose four bytes are mapped and have values (20_memory.md R62). -/
theorem fetchWord_ok {s : State} {w : IWord} (h : fetchWord s = .ok w) :
    s.pcAddr % 4 = 0 ∧ firstUnmapped s.cfg s.pcAddr 4 = none ∧ firstUnwritten s s.pcAddr 4 = none
      ∧ w = wordOfBytes s.cfg.byteOrder (s.loadBytes s.pcAddr 4) := by
  unfold fetchWord at h
  split at h
  · cases h
  · rename_i ha
    split at h
    · cases h
    · rename_i hm
      split at h
      · cases h
      · rename_i hu
        exact ⟨by omega, hm, hu, by injection h with h; exact h.symm⟩

/-- The front end runs an instruction only on a machine that is not halted, and then the decoded word. -/
theorem frontEnd_run {s : State} {i : Instr} (h : frontEnd s = .run i) :
    s.halted = false ∧ ∃ w, fetchWord s = .ok w ∧ decodeUnder s.cfg.encoding s.cfg.xlen w = .ok i := by
  unfold frontEnd at h
  split at h
  · cases h
  · rename_i hh
    split at h
    · cases h
    · rename_i w hw
      split at h
      · cases h
      · rename_i j hj
        exact ⟨by simpa using hh, w, hw, by injection h with h; rw [hj, h]⟩

end Sys2Proof.Machine
end

