-- ==== Sys2Proof/Laws/Exec.lean ====
section
/-! SUPPORT. What an instruction can do, said once: `exec_next` gives every shape of next state an instruction can answer,
in terms of the fields of its word, so that no later proof splits the arms of `exec` again. -/

namespace Sys2Proof.Machine
open Sys2Proof

/-- The shapes of the next states of an executed instruction, one that is not nullified (10_state.md R31), over the
fields of its word. -/
inductive Executed (i : Instr) (s : State) : State → Prop where
  /-- jmp and jmp.reg (40_flow_control.md R121, R123) -/
  | jump (v : BitVec s.xlen) (h : opcodeOf i = 0x01 ∨ opcodeOf i = 0x04) : Executed i s (s.setPc v)
  /-- jmp.link and jmp.reg.link (R122, R124) -/
  | jumpLink (v : BitVec s.xlen) (h : opcodeOf i = 0x02 ∨ opcodeOf i = 0x05) :
      Executed i s ((s.setReg linkReg (s.pcv s.xlen + 4#s.xlen)).setPc v)
  /-- trap (R125) -/
  | trap (h : opcodeOf i = 0x03) : Executed i s s.halt
  /-- cmp, cmpi and testbit (41_compare_predication.md R142) -/
  | compare (b : Bool) (h : IsCompare i) (hne : ¬ (fPa (encode i) = fPb (encode i) ∧ fPa (encode i) ≠ 0)) :
      Executed i s ((s.setPred (fPa (encode i)) b).setPred (fPb (encode i)) (!b)).advance
  /-- changepr (R140) -/
  | changepr (h : opcodeOf i = 0x0B) : Executed i s (s.setAps (fLow4 (encode i)).toFin).advance
  /-- changepr.ld (R141) -/
  | changeprLd (h : opcodeOf i = 0x0C) :
      Executed i s ((s.setAps (fLow4 (encode i)).toFin).loadPreds (fImm8 (encode i))).advance
  /-- every instruction that writes Rd alone (10_state.md R20) -/
  | write (v : BitVec s.xlen)
      (h : opcodeOf i = 0x06 ∨ opcodeOf i = 0x07 ∨ (0x0D ≤ opcodeOf i ∧ opcodeOf i ≤ 0x13) ∨ 0x20 ≤ opcodeOf i) :
      Executed i s (s.setReg (fRd (encode i)) v).advance
  /-- load.update (42_memory_access.md R165) -/
  | loadUpdate (v : BitVec s.xlen) (h : IsLoadUpdate i) :
      Executed i s ((s.setReg (fRd (encode i)) v).setReg (fRs1 (encode i)) (wordAddress s (encode i))).advance
  /-- store (R166) -/
  | store (u : State) (h : IsStore i) (hlt : opcodeOf i < 0x1C)
      (hw : s.memWrite (wordAddress s (encode i)) (accessBytes (encode i)) (s.reg s.xlen (fRd (encode i))) = .ok u) :
      Executed i s u.advance
  /-- store.update (R167) -/
  | storeUpdate (u : State) (h : IsStore i) (hge : 0x1C ≤ opcodeOf i)
      (hw : s.memWrite (wordAddress s (encode i)) (accessBytes (encode i)) (s.reg s.xlen (fRd (encode i))) = .ok u) :
      Executed i s (u.setReg (fRs1 (encode i)) (wordAddress s (encode i))).advance

/-- What exec can answer as a next state: the instruction was nullified, or was executed (10_state.md R25, R31). -/
inductive Nexts (i : Instr) (s : State) : State → Prop where
  | nullified (hp : s.pred i.guardField = false) (ht : opcodeOf i = 0x03 → s.cfg.trapPredicated = true) :
      Nexts i s s.advance
  | executed {t : State} (hp : s.pred i.guardField = true ∨ (opcodeOf i = 0x03 ∧ s.cfg.trapPredicated = false))
      (h : Executed i s t) : Nexts i s t

/-- A guarded body: nullified, or the body's own next state. -/
theorem nexts_of_guarded {i : Instr} {s t : State} {body : Result} (h3 : opcodeOf i ≠ 0x03)
    (h : guarded i.guardField s body = .next t) (hb : body = .next t → Executed i s t) : Nexts i s t := by
  rcases guarded_next h with ⟨hp, h⟩ | ⟨hp, rfl⟩
  · exact .executed (.inl hp) (hb h)
  · exact .nullified hp (fun h => absurd h h3)

/-- A guarded write of one register. -/
theorem nexts_of_writeReg {i : Instr} {s t : State} {rd : Reg} {v : BitVec s.xlen}
    (h3 : opcodeOf i = 0x06 ∨ opcodeOf i = 0x07 ∨ (0x0D ≤ opcodeOf i ∧ opcodeOf i ≤ 0x13) ∨ 0x20 ≤ opcodeOf i)
    (hrd : fRd (encode i) = rd) (h : guarded i.guardField s (writeReg s rd v) = .next t) : Nexts i s t :=
  nexts_of_guarded (by omega) h fun h => by rw [writeReg_next h, ← hrd]; exact .write v h3

/-- A guarded write of one register under a condition that otherwise has no meaning. -/
theorem nexts_of_writeReg_if {i : Instr} {s t : State} {rd : Reg} {v : BitVec s.xlen} {c : Prop} [Decidable c]
    {u : UnspecifiedCase}
    (h3 : opcodeOf i = 0x06 ∨ opcodeOf i = 0x07 ∨ (0x0D ≤ opcodeOf i ∧ opcodeOf i ≤ 0x13) ∨ 0x20 ≤ opcodeOf i)
    (hrd : fRd (encode i) = rd)
    (h : guarded i.guardField s (if c then unspecified u else writeReg s rd v) = .next t) : Nexts i s t :=
  nexts_of_guarded (by omega) h fun h => by
    split at h
    · exact absurd h unspecified_not_next
    · rw [writeReg_next h, ← hrd]; exact .write v h3

theorem nexts_of_packed {i : Instr} {s t : State} {rd r1 r2 : Reg} {w : Nat} {f : BitVec w → BitVec w → BitVec w}
    (h3 : 0x20 ≤ opcodeOf i) (hrd : fRd (encode i) = rd)
    (h : packed w f i.guardField rd r1 r2 s = .next t) : Nexts i s t :=
  nexts_of_writeReg (.inr (.inr (.inr h3))) hrd (sized_next h).2

theorem nexts_of_mulShift {i : Instr} {s t : State} {rd r1 r2 : Reg} {f : BitVec 16 → BitVec 16 → BitVec 16}
    (h3 : 0x20 ≤ opcodeOf i) (hrd : fRd (encode i) = rd)
    (h : mulShift f i.guardField rd r1 r2 s = .next t) : Nexts i s t :=
  nexts_of_writeReg (.inr (.inr (.inr h3))) hrd h

theorem nexts_of_scalarShift {i : Instr} {s t : State} {rd : Reg} {r1 : Reg} {imm13 : BitVec 13}
    {f : BitVec s.xlen → Nat → BitVec s.xlen} (h3 : 0x20 ≤ opcodeOf i)
    (hrd : fRd (encode i) = rd) (h : scalarShift i.guardField rd r1 imm13 s f = .next t) : Nexts i s t :=
  nexts_of_writeReg_if (.inr (.inr (.inr h3))) hrd h

theorem nexts_of_shiftLanes {i : Instr} {s t : State} {rd : Reg} {w : Nat} {d : LaneShift} {k : Nat} {r1 : Reg}
    (h3 : 0x20 ≤ opcodeOf i)
    (hrd : fRd (encode i) = rd)
    (h : sized w s (guarded i.guardField s (shiftLanes w d k rd r1 s)) = .next t) : Nexts i s t :=
  nexts_of_writeReg_if (.inr (.inr (.inr h3))) hrd (sized_next h).2

theorem nexts_of_mix {i : Instr} {s t : State} {rd : Reg} {w : Nat} {l : Bool} {r1 r2 : Reg} (h3 : opcodeOf i = 0x0D)
    (hrd : fRd (encode i) = rd) (h : mix w l i.guardField rd r1 r2 s = .next t) : Nexts i s t :=
  nexts_of_writeReg (by omega) hrd (sized_next h).2

theorem nexts_of_writePreds {i : Instr} {s t : State} {b : Bool} (hc : IsCompare i)
    (h : writePreds i.guardField (fPa (encode i)) (fPb (encode i)) s b = .next t) : Nexts i s t :=
  nexts_of_guarded (by unfold IsCompare at hc; omega) h fun h => by
    split at h
    · exact absurd h unspecified_not_next
    · rw [finish_next h]; exact .compare b hc (by assumption)

theorem nexts_of_load {i : Instr} {s t : State} {n : Nat} (h3 : 0x10 ≤ opcodeOf i ∧ opcodeOf i ≤ 0x13)
    (h : load n i.guardField (fRd (encode i)) (fRs1 (encode i)) (fImm13 (encode i)) s = .next t) : Nexts i s t :=
  nexts_of_guarded (by omega) (sized_next h).2 fun h => by
    split at h
    · cases h
    · rw [writeReg_next h]; exact .write _ (by omega)

theorem nexts_of_loadUpdate {i : Instr} {s t : State} {n : Nat} (h3 : IsLoadUpdate i)
    (h : loadUpdate n i.guardField (fRd (encode i)) (fRs1 (encode i)) (fImm13 (encode i)) s = .next t) :
    Nexts i s t :=
  nexts_of_guarded (by unfold IsLoadUpdate at h3; omega) (sized_next h).2 fun h => by
    split at h
    · exact absurd h unspecified_not_next
    · split at h
      · cases h
      · rw [writeReg_next h]; exact .loadUpdate _ h3

theorem nexts_of_store {i : Instr} {s t : State} (h3 : IsStore i) (hlt : opcodeOf i < 0x1C)
    (h : store (accessBytes (encode i)) i.guardField (fRd (encode i)) (fRs1 (encode i)) (fImm13 (encode i)) s
      = .next t) : Nexts i s t :=
  nexts_of_guarded (by unfold IsStore at h3; omega) (sized_next h).2 fun h => by
    split at h
    · cases h
    · rename_i u hu
      rw [finish_next h]; exact .store u h3 hlt hu

theorem nexts_of_storeUpdate {i : Instr} {s t : State} (h3 : IsStore i) (hge : 0x1C ≤ opcodeOf i)
    (h : storeUpdate (accessBytes (encode i)) i.guardField (fRd (encode i)) (fRs1 (encode i)) (fImm13 (encode i)) s
      = .next t) : Nexts i s t :=
  nexts_of_guarded (by unfold IsStore at h3; omega) (sized_next h).2 fun h => by
    split at h
    · cases h
    · rename_i u hu
      rw [writeReg_next h]; exact .storeUpdate u h3 hge hu

/-- Every next state of an instruction is the nullified one or one of the shapes of `Executed`. -/
theorem exec_next {i : Instr} {s t : State} (h : exec i s = .next t) : Nexts i s t := by
  cases i with
  | jmp p imm23 =>
    exact nexts_of_guarded (i := .jmp p imm23) (by simp [opcodeOf, encode, fOpcode_fmt0]) h fun h => by
      injection h with h; subst h
      exact .jump _ (by simp [opcodeOf, encode, fOpcode_fmt0])
  | jmpLink p imm23 =>
    exact nexts_of_guarded (i := .jmpLink p imm23) (by simp [opcodeOf, encode, fOpcode_fmt0]) h fun h => by
      injection h with h; subst h
      exact .jumpLink _ (by simp [opcodeOf, encode, fOpcode_fmt0])
  | trap p =>
    have h3 : opcodeOf (.trap p) = 0x03 := by simp [opcodeOf, encode, fOpcode_fmt0]
    simp only [exec, execTrap] at h
    split at h
    · rename_i hT
      rcases guarded_next h with ⟨hp, h⟩ | ⟨hp, rfl⟩
      · injection h with h; subst h; exact .executed (.inl hp) (.trap h3)
      · exact .nullified hp fun _ => hT
    · rename_i hT
      injection h with h; subst h; exact .executed (.inr ⟨h3, by simpa using hT⟩) (.trap h3)
  | jmpReg p rd =>
    exact nexts_of_guarded (i := .jmpReg p rd) (by simp [opcodeOf, encode, fOpcode_fmt1]) h fun h => by
      injection h with h; subst h
      exact .jump _ (by simp [opcodeOf, encode, fOpcode_fmt1])
  | jmpRegLink p rd =>
    exact nexts_of_guarded (i := .jmpRegLink p rd) (by simp [opcodeOf, encode, fOpcode_fmt1]) h fun h => by
      split at h
      · exact absurd h unspecified_not_next
      · injection h with h; subst h
        exact .jumpLink _ (by simp [opcodeOf, encode, fOpcode_fmt1])
  | loadiHi p rd imm16 =>
    exact nexts_of_writeReg (i := .loadiHi p rd imm16) (by simp [opcodeOf, encode, fOpcode_fmt1]) (fRd_fmt1 _ _ _ _) h
  | loadiLo p rd imm16 =>
    exact nexts_of_writeReg (i := .loadiLo p rd imm16) (by simp [opcodeOf, encode, fOpcode_fmt1]) (fRd_fmt1 _ _ _ _) h
  | cmpEq p rs1 rs2 pa pb =>
    exact nexts_of_writePreds (i := .cmpEq p rs1 rs2 pa pb) (by simp [IsCompare, opcodeOf, encode, fOpcode_fmt5a])
      (by rw [encode, fPa_fmt5a, fPb_fmt5a]; exact h)
  | cmpNe p rs1 rs2 pa pb =>
    exact nexts_of_writePreds (i := .cmpNe p rs1 rs2 pa pb) (by simp [IsCompare, opcodeOf, encode, fOpcode_fmt5a])
      (by rw [encode, fPa_fmt5a, fPb_fmt5a]; exact h)
  | cmpLt p rs1 rs2 pa pb =>
    exact nexts_of_writePreds (i := .cmpLt p rs1 rs2 pa pb) (by simp [IsCompare, opcodeOf, encode, fOpcode_fmt5a])
      (by rw [encode, fPa_fmt5a, fPb_fmt5a]; exact h)
  | cmpLe p rs1 rs2 pa pb =>
    exact nexts_of_writePreds (i := .cmpLe p rs1 rs2 pa pb) (by simp [IsCompare, opcodeOf, encode, fOpcode_fmt5a])
      (by rw [encode, fPa_fmt5a, fPb_fmt5a]; exact h)
  | cmpGt p rs1 rs2 pa pb =>
    exact nexts_of_writePreds (i := .cmpGt p rs1 rs2 pa pb) (by simp [IsCompare, opcodeOf, encode, fOpcode_fmt5a])
      (by rw [encode, fPa_fmt5a, fPb_fmt5a]; exact h)
  | cmpGe p rs1 rs2 pa pb =>
    exact nexts_of_writePreds (i := .cmpGe p rs1 rs2 pa pb) (by simp [IsCompare, opcodeOf, encode, fOpcode_fmt5a])
      (by rw [encode, fPa_fmt5a, fPb_fmt5a]; exact h)
  | cmpLtu p rs1 rs2 pa pb =>
    exact nexts_of_writePreds (i := .cmpLtu p rs1 rs2 pa pb) (by simp [IsCompare, opcodeOf, encode, fOpcode_fmt5a])
      (by rw [encode, fPa_fmt5a, fPb_fmt5a]; exact h)
  | cmpLeu p rs1 rs2 pa pb =>
    exact nexts_of_writePreds (i := .cmpLeu p rs1 rs2 pa pb) (by simp [IsCompare, opcodeOf, encode, fOpcode_fmt5a])
      (by rw [encode, fPa_fmt5a, fPb_fmt5a]; exact h)
  | cmpGtu p rs1 rs2 pa pb =>
    exact nexts_of_writePreds (i := .cmpGtu p rs1 rs2 pa pb) (by simp [IsCompare, opcodeOf, encode, fOpcode_fmt5a])
      (by rw [encode, fPa_fmt5a, fPb_fmt5a]; exact h)
  | cmpGeu p rs1 rs2 pa pb =>
    exact nexts_of_writePreds (i := .cmpGeu p rs1 rs2 pa pb) (by simp [IsCompare, opcodeOf, encode, fOpcode_fmt5a])
      (by rw [encode, fPa_fmt5a, fPb_fmt5a]; exact h)
  | cmpiEq p rs1 imm8 pa pb =>
    exact nexts_of_writePreds (i := .cmpiEq p rs1 imm8 pa pb) (by simp [IsCompare, opcodeOf, encode, fOpcode_fmt5b])
      (by rw [encode, fPa_fmt5b, fPb_fmt5b]; exact h)
  | cmpiNe p rs1 imm8 pa pb =>
    exact nexts_of_writePreds (i := .cmpiNe p rs1 imm8 pa pb) (by simp [IsCompare, opcodeOf, encode, fOpcode_fmt5b])
      (by rw [encode, fPa_fmt5b, fPb_fmt5b]; exact h)
  | cmpiLt p rs1 imm8 pa pb =>
    exact nexts_of_writePreds (i := .cmpiLt p rs1 imm8 pa pb) (by simp [IsCompare, opcodeOf, encode, fOpcode_fmt5b])
      (by rw [encode, fPa_fmt5b, fPb_fmt5b]; exact h)
  | cmpiLe p rs1 imm8 pa pb =>
    exact nexts_of_writePreds (i := .cmpiLe p rs1 imm8 pa pb) (by simp [IsCompare, opcodeOf, encode, fOpcode_fmt5b])
      (by rw [encode, fPa_fmt5b, fPb_fmt5b]; exact h)
  | cmpiGt p rs1 imm8 pa pb =>
    exact nexts_of_writePreds (i := .cmpiGt p rs1 imm8 pa pb) (by simp [IsCompare, opcodeOf, encode, fOpcode_fmt5b])
      (by rw [encode, fPa_fmt5b, fPb_fmt5b]; exact h)
  | cmpiGe p rs1 imm8 pa pb =>
    exact nexts_of_writePreds (i := .cmpiGe p rs1 imm8 pa pb) (by simp [IsCompare, opcodeOf, encode, fOpcode_fmt5b])
      (by rw [encode, fPa_fmt5b, fPb_fmt5b]; exact h)
  | cmpiLtu p rs1 imm8 pa pb =>
    exact nexts_of_writePreds (i := .cmpiLtu p rs1 imm8 pa pb) (by simp [IsCompare, opcodeOf, encode, fOpcode_fmt5b])
      (by rw [encode, fPa_fmt5b, fPb_fmt5b]; exact h)
  | cmpiLeu p rs1 imm8 pa pb =>
    exact nexts_of_writePreds (i := .cmpiLeu p rs1 imm8 pa pb) (by simp [IsCompare, opcodeOf, encode, fOpcode_fmt5b])
      (by rw [encode, fPa_fmt5b, fPb_fmt5b]; exact h)
  | cmpiGtu p rs1 imm8 pa pb =>
    exact nexts_of_writePreds (i := .cmpiGtu p rs1 imm8 pa pb) (by simp [IsCompare, opcodeOf, encode, fOpcode_fmt5b])
      (by rw [encode, fPa_fmt5b, fPb_fmt5b]; exact h)
  | cmpiGeu p rs1 imm8 pa pb =>
    exact nexts_of_writePreds (i := .cmpiGeu p rs1 imm8 pa pb) (by simp [IsCompare, opcodeOf, encode, fOpcode_fmt5b])
      (by rw [encode, fPa_fmt5b, fPb_fmt5b]; exact h)
  | testbit p rd imm8 pa pb =>
    exact nexts_of_writePreds (i := .testbit p rd imm8 pa pb) (by simp [IsCompare, opcodeOf, encode, fOpcode_fmt5b])
      (by rw [encode, fPa_fmt5b, fPb_fmt5b]; exact h)
  | changepr p imm4 =>
    exact nexts_of_guarded (i := .changepr p imm4) (by simp [opcodeOf, encode, fOpcode_fmt5b]) h fun h => by
      rw [finish_next h]
      have := Executed.changepr (i := .changepr p imm4) (s := s) (by simp [opcodeOf, encode, fOpcode_fmt5b])
      simpa only [encode, fLow4_fmt5b] using this
  | changeprLd p imm4 imm8 =>
    exact nexts_of_guarded (i := .changeprLd p imm4 imm8) (by simp [opcodeOf, encode, fOpcode_fmt5b]) h fun h => by
      rw [finish_next h]
      have := Executed.changeprLd (i := .changeprLd p imm4 imm8) (s := s) (by simp [opcodeOf, encode, fOpcode_fmt5b])
      simpa only [encode, fLow4_fmt5b, fImm8_fmt5b] using this
  | mix1L p rd rs1 rs2 =>
    exact nexts_of_mix (i := .mix1L p rd rs1 rs2) (by simp [opcodeOf, encode, fOpcode_fmt4a]) (fRd_fmt4a _ _ _ _ _ _ _ _) h
  | mix2L p rd rs1 rs2 =>
    exact nexts_of_mix (i := .mix2L p rd rs1 rs2) (by simp [opcodeOf, encode, fOpcode_fmt4a]) (fRd_fmt4a _ _ _ _ _ _ _ _) h
  | mix4L p rd rs1 rs2 =>
    exact nexts_of_mix (i := .mix4L p rd rs1 rs2) (by simp [opcodeOf, encode, fOpcode_fmt4a]) (fRd_fmt4a _ _ _ _ _ _ _ _) h
  | mix1R p rd rs1 rs2 =>
    exact nexts_of_mix (i := .mix1R p rd rs1 rs2) (by simp [opcodeOf, encode, fOpcode_fmt4a]) (fRd_fmt4a _ _ _ _ _ _ _ _) h
  | mix2R p rd rs1 rs2 =>
    exact nexts_of_mix (i := .mix2R p rd rs1 rs2) (by simp [opcodeOf, encode, fOpcode_fmt4a]) (fRd_fmt4a _ _ _ _ _ _ _ _) h
  | mix4R p rd rs1 rs2 =>
    exact nexts_of_mix (i := .mix4R p rd rs1 rs2) (by simp [opcodeOf, encode, fOpcode_fmt4a]) (fRd_fmt4a _ _ _ _ _ _ _ _) h
  | muxRev p rd rs1 =>
    exact nexts_of_writeReg (i := .muxRev p rd rs1) (by simp [opcodeOf, encode, fOpcode_fmt4b]) (fRd_fmt4b _ _ _ _ _ _ _ _) h
  | muxMix p rd rs1 =>
    exact nexts_of_writeReg (i := .muxMix p rd rs1) (by simp [opcodeOf, encode, fOpcode_fmt4b]) (fRd_fmt4b _ _ _ _ _ _ _ _) h
  | muxShuf p rd rs1 =>
    exact nexts_of_writeReg (i := .muxShuf p rd rs1) (by simp [opcodeOf, encode, fOpcode_fmt4b]) (fRd_fmt4b _ _ _ _ _ _ _ _) h
  | muxAlt p rd rs1 =>
    exact nexts_of_writeReg (i := .muxAlt p rd rs1) (by simp [opcodeOf, encode, fOpcode_fmt4b]) (fRd_fmt4b _ _ _ _ _ _ _ _) h
  | muxBrcst p rd rs1 =>
    exact nexts_of_writeReg (i := .muxBrcst p rd rs1) (by simp [opcodeOf, encode, fOpcode_fmt4b]) (fRd_fmt4b _ _ _ _ _ _ _ _) h
  | perm p rd rs1 rs2 =>
    exact nexts_of_writeReg (i := .perm p rd rs1 rs2) (by simp [opcodeOf, encode, fOpcode_fmt4a]) (fRd_fmt4a _ _ _ _ _ _ _ _) h
  | load1 p rd rs1 imm13 =>
    exact nexts_of_load (n := 1) (i := .load1 p rd rs1 imm13) (by simp [opcodeOf, encode, fOpcode_fmt2])
      (by rw [encode, fRd_fmt2, fRs1_fmt2, fImm13_fmt2]; exact h)
  | load2 p rd rs1 imm13 =>
    exact nexts_of_load (n := 2) (i := .load2 p rd rs1 imm13) (by simp [opcodeOf, encode, fOpcode_fmt2])
      (by rw [encode, fRd_fmt2, fRs1_fmt2, fImm13_fmt2]; exact h)
  | load4 p rd rs1 imm13 =>
    exact nexts_of_load (n := 4) (i := .load4 p rd rs1 imm13) (by simp [opcodeOf, encode, fOpcode_fmt2])
      (by rw [encode, fRd_fmt2, fRs1_fmt2, fImm13_fmt2]; exact h)
  | load8 p rd rs1 imm13 =>
    exact nexts_of_load (n := 8) (i := .load8 p rd rs1 imm13) (by simp [opcodeOf, encode, fOpcode_fmt2])
      (by rw [encode, fRd_fmt2, fRs1_fmt2, fImm13_fmt2]; exact h)
  | load1Update p rd rs1 imm13 =>
    exact nexts_of_loadUpdate (n := 1) (i := .load1Update p rd rs1 imm13) (by simp [IsLoadUpdate, opcodeOf, encode, fOpcode_fmt2])
      (by rw [encode, fRd_fmt2, fRs1_fmt2, fImm13_fmt2]; exact h)
  | load2Update p rd rs1 imm13 =>
    exact nexts_of_loadUpdate (n := 2) (i := .load2Update p rd rs1 imm13) (by simp [IsLoadUpdate, opcodeOf, encode, fOpcode_fmt2])
      (by rw [encode, fRd_fmt2, fRs1_fmt2, fImm13_fmt2]; exact h)
  | load4Update p rd rs1 imm13 =>
    exact nexts_of_loadUpdate (n := 4) (i := .load4Update p rd rs1 imm13) (by simp [IsLoadUpdate, opcodeOf, encode, fOpcode_fmt2])
      (by rw [encode, fRd_fmt2, fRs1_fmt2, fImm13_fmt2]; exact h)
  | load8Update p rd rs1 imm13 =>
    exact nexts_of_loadUpdate (n := 8) (i := .load8Update p rd rs1 imm13) (by simp [IsLoadUpdate, opcodeOf, encode, fOpcode_fmt2])
      (by rw [encode, fRd_fmt2, fRs1_fmt2, fImm13_fmt2]; exact h)
  | store1 p rd rs1 imm13 =>
    exact nexts_of_store (i := .store1 p rd rs1 imm13) (by simp [IsStore, opcodeOf, encode, fOpcode_fmt2]) (by simp [opcodeOf, encode, fOpcode_fmt2])
      (by rw [accessBytes, encode, fOpcode_fmt2, fRd_fmt2, fRs1_fmt2, fImm13_fmt2]; exact h)
  | store2 p rd rs1 imm13 =>
    exact nexts_of_store (i := .store2 p rd rs1 imm13) (by simp [IsStore, opcodeOf, encode, fOpcode_fmt2]) (by simp [opcodeOf, encode, fOpcode_fmt2])
      (by rw [accessBytes, encode, fOpcode_fmt2, fRd_fmt2, fRs1_fmt2, fImm13_fmt2]; exact h)
  | store4 p rd rs1 imm13 =>
    exact nexts_of_store (i := .store4 p rd rs1 imm13) (by simp [IsStore, opcodeOf, encode, fOpcode_fmt2]) (by simp [opcodeOf, encode, fOpcode_fmt2])
      (by rw [accessBytes, encode, fOpcode_fmt2, fRd_fmt2, fRs1_fmt2, fImm13_fmt2]; exact h)
  | store8 p rd rs1 imm13 =>
    exact nexts_of_store (i := .store8 p rd rs1 imm13) (by simp [IsStore, opcodeOf, encode, fOpcode_fmt2]) (by simp [opcodeOf, encode, fOpcode_fmt2])
      (by rw [accessBytes, encode, fOpcode_fmt2, fRd_fmt2, fRs1_fmt2, fImm13_fmt2]; exact h)
  | store1Update p rd rs1 imm13 =>
    exact nexts_of_storeUpdate (i := .store1Update p rd rs1 imm13) (by simp [IsStore, opcodeOf, encode, fOpcode_fmt2]) (by simp [opcodeOf, encode, fOpcode_fmt2])
      (by rw [accessBytes, encode, fOpcode_fmt2, fRd_fmt2, fRs1_fmt2, fImm13_fmt2]; exact h)
  | store2Update p rd rs1 imm13 =>
    exact nexts_of_storeUpdate (i := .store2Update p rd rs1 imm13) (by simp [IsStore, opcodeOf, encode, fOpcode_fmt2]) (by simp [opcodeOf, encode, fOpcode_fmt2])
      (by rw [accessBytes, encode, fOpcode_fmt2, fRd_fmt2, fRs1_fmt2, fImm13_fmt2]; exact h)
  | store4Update p rd rs1 imm13 =>
    exact nexts_of_storeUpdate (i := .store4Update p rd rs1 imm13) (by simp [IsStore, opcodeOf, encode, fOpcode_fmt2]) (by simp [opcodeOf, encode, fOpcode_fmt2])
      (by rw [accessBytes, encode, fOpcode_fmt2, fRd_fmt2, fRs1_fmt2, fImm13_fmt2]; exact h)
  | store8Update p rd rs1 imm13 =>
    exact nexts_of_storeUpdate (i := .store8Update p rd rs1 imm13) (by simp [IsStore, opcodeOf, encode, fOpcode_fmt2]) (by simp [opcodeOf, encode, fOpcode_fmt2])
      (by rw [accessBytes, encode, fOpcode_fmt2, fRd_fmt2, fRs1_fmt2, fImm13_fmt2]; exact h)
  | addi p rd rs1 imm13 =>
    exact nexts_of_writeReg (i := .addi p rd rs1 imm13) (by simp [opcodeOf, encode, fOpcode_fmt2]) (fRd_fmt2 _ _ _ _ _) h
  | subi p rd rs1 imm13 =>
    exact nexts_of_writeReg (i := .subi p rd rs1 imm13) (by simp [opcodeOf, encode, fOpcode_fmt2]) (fRd_fmt2 _ _ _ _ _) h
  | andi p rd rs1 imm13 =>
    exact nexts_of_writeReg (i := .andi p rd rs1 imm13) (by simp [opcodeOf, encode, fOpcode_fmt2]) (fRd_fmt2 _ _ _ _ _) h
  | ori p rd rs1 imm13 =>
    exact nexts_of_writeReg (i := .ori p rd rs1 imm13) (by simp [opcodeOf, encode, fOpcode_fmt2]) (fRd_fmt2 _ _ _ _ _) h
  | xori p rd rs1 imm13 =>
    exact nexts_of_writeReg (i := .xori p rd rs1 imm13) (by simp [opcodeOf, encode, fOpcode_fmt2]) (fRd_fmt2 _ _ _ _ _) h
  | slli p rd rs1 imm13 =>
    exact nexts_of_scalarShift (i := .slli p rd rs1 imm13) (by simp [opcodeOf, encode, fOpcode_fmt2]) (fRd_fmt2 _ _ _ _ _) h
  | srli p rd rs1 imm13 =>
    exact nexts_of_scalarShift (i := .srli p rd rs1 imm13) (by simp [opcodeOf, encode, fOpcode_fmt2]) (fRd_fmt2 _ _ _ _ _) h
  | srai p rd rs1 imm13 =>
    exact nexts_of_scalarShift (i := .srai p rd rs1 imm13) (by simp [opcodeOf, encode, fOpcode_fmt2]) (fRd_fmt2 _ _ _ _ _) h
  | shrp p rd rs1 rs2 imm8 =>
    exact nexts_of_writeReg (i := .shrp p rd rs1 rs2 imm8) (by simp [opcodeOf, encode, fOpcode_fmt4c]) (fRd_fmt4c _ _ _ _ _ _) h
  | extract p rd rs1 imm7 imm6 =>
    exact nexts_of_writeReg_if (i := .extract p rd rs1 imm7 imm6) (by simp [opcodeOf, encode, fOpcode_fmt3]) (fRd_fmt3 _ _ _ _ _ _) h
  | deposit p rd rs1 imm7 imm6 =>
    exact nexts_of_writeReg_if (i := .deposit p rd rs1 imm7 imm6) (by simp [opcodeOf, encode, fOpcode_fmt3]) (fRd_fmt3 _ _ _ _ _ _) h
  | padd1 p rd rs1 rs2 =>
    exact nexts_of_packed (i := .padd1 p rd rs1 rs2) (by simp [opcodeOf, encode, fOpcode_fmt4a]) (fRd_fmt4a _ _ _ _ _ _ _ _) h
  | padd2 p rd rs1 rs2 =>
    exact nexts_of_packed (i := .padd2 p rd rs1 rs2) (by simp [opcodeOf, encode, fOpcode_fmt4a]) (fRd_fmt4a _ _ _ _ _ _ _ _) h
  | padd4 p rd rs1 rs2 =>
    exact nexts_of_packed (i := .padd4 p rd rs1 rs2) (by simp [opcodeOf, encode, fOpcode_fmt4a]) (fRd_fmt4a _ _ _ _ _ _ _ _) h
  | padd8 p rd rs1 rs2 =>
    exact nexts_of_packed (i := .padd8 p rd rs1 rs2) (by simp [opcodeOf, encode, fOpcode_fmt4a]) (fRd_fmt4a _ _ _ _ _ _ _ _) h
  | padd1U p rd rs1 rs2 =>
    exact nexts_of_packed (i := .padd1U p rd rs1 rs2) (by simp [opcodeOf, encode, fOpcode_fmt4a]) (fRd_fmt4a _ _ _ _ _ _ _ _) h
  | padd2U p rd rs1 rs2 =>
    exact nexts_of_packed (i := .padd2U p rd rs1 rs2) (by simp [opcodeOf, encode, fOpcode_fmt4a]) (fRd_fmt4a _ _ _ _ _ _ _ _) h
  | padd4U p rd rs1 rs2 =>
    exact nexts_of_packed (i := .padd4U p rd rs1 rs2) (by simp [opcodeOf, encode, fOpcode_fmt4a]) (fRd_fmt4a _ _ _ _ _ _ _ _) h
  | padd8U p rd rs1 rs2 =>
    exact nexts_of_packed (i := .padd8U p rd rs1 rs2) (by simp [opcodeOf, encode, fOpcode_fmt4a]) (fRd_fmt4a _ _ _ _ _ _ _ _) h
  | padd1S p rd rs1 rs2 =>
    exact nexts_of_packed (i := .padd1S p rd rs1 rs2) (by simp [opcodeOf, encode, fOpcode_fmt4a]) (fRd_fmt4a _ _ _ _ _ _ _ _) h
  | padd2S p rd rs1 rs2 =>
    exact nexts_of_packed (i := .padd2S p rd rs1 rs2) (by simp [opcodeOf, encode, fOpcode_fmt4a]) (fRd_fmt4a _ _ _ _ _ _ _ _) h
  | padd4S p rd rs1 rs2 =>
    exact nexts_of_packed (i := .padd4S p rd rs1 rs2) (by simp [opcodeOf, encode, fOpcode_fmt4a]) (fRd_fmt4a _ _ _ _ _ _ _ _) h
  | padd8S p rd rs1 rs2 =>
    exact nexts_of_packed (i := .padd8S p rd rs1 rs2) (by simp [opcodeOf, encode, fOpcode_fmt4a]) (fRd_fmt4a _ _ _ _ _ _ _ _) h
  | paddincr1 p rd rs1 rs2 =>
    exact nexts_of_packed (i := .paddincr1 p rd rs1 rs2) (by simp [opcodeOf, encode, fOpcode_fmt4a]) (fRd_fmt4a _ _ _ _ _ _ _ _) h
  | paddincr2 p rd rs1 rs2 =>
    exact nexts_of_packed (i := .paddincr2 p rd rs1 rs2) (by simp [opcodeOf, encode, fOpcode_fmt4a]) (fRd_fmt4a _ _ _ _ _ _ _ _) h
  | paddincr4 p rd rs1 rs2 =>
    exact nexts_of_packed (i := .paddincr4 p rd rs1 rs2) (by simp [opcodeOf, encode, fOpcode_fmt4a]) (fRd_fmt4a _ _ _ _ _ _ _ _) h
  | paddincr8 p rd rs1 rs2 =>
    exact nexts_of_packed (i := .paddincr8 p rd rs1 rs2) (by simp [opcodeOf, encode, fOpcode_fmt4a]) (fRd_fmt4a _ _ _ _ _ _ _ _) h
  | psub1 p rd rs1 rs2 =>
    exact nexts_of_packed (i := .psub1 p rd rs1 rs2) (by simp [opcodeOf, encode, fOpcode_fmt4a]) (fRd_fmt4a _ _ _ _ _ _ _ _) h
  | psub2 p rd rs1 rs2 =>
    exact nexts_of_packed (i := .psub2 p rd rs1 rs2) (by simp [opcodeOf, encode, fOpcode_fmt4a]) (fRd_fmt4a _ _ _ _ _ _ _ _) h
  | psub4 p rd rs1 rs2 =>
    exact nexts_of_packed (i := .psub4 p rd rs1 rs2) (by simp [opcodeOf, encode, fOpcode_fmt4a]) (fRd_fmt4a _ _ _ _ _ _ _ _) h
  | psub8 p rd rs1 rs2 =>
    exact nexts_of_packed (i := .psub8 p rd rs1 rs2) (by simp [opcodeOf, encode, fOpcode_fmt4a]) (fRd_fmt4a _ _ _ _ _ _ _ _) h
  | psub1U p rd rs1 rs2 =>
    exact nexts_of_packed (i := .psub1U p rd rs1 rs2) (by simp [opcodeOf, encode, fOpcode_fmt4a]) (fRd_fmt4a _ _ _ _ _ _ _ _) h
  | psub2U p rd rs1 rs2 =>
    exact nexts_of_packed (i := .psub2U p rd rs1 rs2) (by simp [opcodeOf, encode, fOpcode_fmt4a]) (fRd_fmt4a _ _ _ _ _ _ _ _) h
  | psub4U p rd rs1 rs2 =>
    exact nexts_of_packed (i := .psub4U p rd rs1 rs2) (by simp [opcodeOf, encode, fOpcode_fmt4a]) (fRd_fmt4a _ _ _ _ _ _ _ _) h
  | psub8U p rd rs1 rs2 =>
    exact nexts_of_packed (i := .psub8U p rd rs1 rs2) (by simp [opcodeOf, encode, fOpcode_fmt4a]) (fRd_fmt4a _ _ _ _ _ _ _ _) h
  | psub1S p rd rs1 rs2 =>
    exact nexts_of_packed (i := .psub1S p rd rs1 rs2) (by simp [opcodeOf, encode, fOpcode_fmt4a]) (fRd_fmt4a _ _ _ _ _ _ _ _) h
  | psub2S p rd rs1 rs2 =>
    exact nexts_of_packed (i := .psub2S p rd rs1 rs2) (by simp [opcodeOf, encode, fOpcode_fmt4a]) (fRd_fmt4a _ _ _ _ _ _ _ _) h
  | psub4S p rd rs1 rs2 =>
    exact nexts_of_packed (i := .psub4S p rd rs1 rs2) (by simp [opcodeOf, encode, fOpcode_fmt4a]) (fRd_fmt4a _ _ _ _ _ _ _ _) h
  | psub8S p rd rs1 rs2 =>
    exact nexts_of_packed (i := .psub8S p rd rs1 rs2) (by simp [opcodeOf, encode, fOpcode_fmt4a]) (fRd_fmt4a _ _ _ _ _ _ _ _) h
  | psubdecr1 p rd rs1 rs2 =>
    exact nexts_of_packed (i := .psubdecr1 p rd rs1 rs2) (by simp [opcodeOf, encode, fOpcode_fmt4a]) (fRd_fmt4a _ _ _ _ _ _ _ _) h
  | psubdecr2 p rd rs1 rs2 =>
    exact nexts_of_packed (i := .psubdecr2 p rd rs1 rs2) (by simp [opcodeOf, encode, fOpcode_fmt4a]) (fRd_fmt4a _ _ _ _ _ _ _ _) h
  | psubdecr4 p rd rs1 rs2 =>
    exact nexts_of_packed (i := .psubdecr4 p rd rs1 rs2) (by simp [opcodeOf, encode, fOpcode_fmt4a]) (fRd_fmt4a _ _ _ _ _ _ _ _) h
  | psubdecr8 p rd rs1 rs2 =>
    exact nexts_of_packed (i := .psubdecr8 p rd rs1 rs2) (by simp [opcodeOf, encode, fOpcode_fmt4a]) (fRd_fmt4a _ _ _ _ _ _ _ _) h
  | pavg1 p rd rs1 rs2 =>
    exact nexts_of_packed (i := .pavg1 p rd rs1 rs2) (by simp [opcodeOf, encode, fOpcode_fmt4a]) (fRd_fmt4a _ _ _ _ _ _ _ _) h
  | pavg2 p rd rs1 rs2 =>
    exact nexts_of_packed (i := .pavg2 p rd rs1 rs2) (by simp [opcodeOf, encode, fOpcode_fmt4a]) (fRd_fmt4a _ _ _ _ _ _ _ _) h
  | pavg1Raz p rd rs1 rs2 =>
    exact nexts_of_packed (i := .pavg1Raz p rd rs1 rs2) (by simp [opcodeOf, encode, fOpcode_fmt4a]) (fRd_fmt4a _ _ _ _ _ _ _ _) h
  | pavg2Raz p rd rs1 rs2 =>
    exact nexts_of_packed (i := .pavg2Raz p rd rs1 rs2) (by simp [opcodeOf, encode, fOpcode_fmt4a]) (fRd_fmt4a _ _ _ _ _ _ _ _) h
  | psubavg1 p rd rs1 rs2 =>
    exact nexts_of_packed (i := .psubavg1 p rd rs1 rs2) (by simp [opcodeOf, encode, fOpcode_fmt4a]) (fRd_fmt4a _ _ _ _ _ _ _ _) h
  | psubavg2 p rd rs1 rs2 =>
    exact nexts_of_packed (i := .psubavg2 p rd rs1 rs2) (by simp [opcodeOf, encode, fOpcode_fmt4a]) (fRd_fmt4a _ _ _ _ _ _ _ _) h
  | andReg p rd rs1 rs2 =>
    exact nexts_of_writeReg (i := .andReg p rd rs1 rs2) (by simp [opcodeOf, encode, fOpcode_fmt4a]) (fRd_fmt4a _ _ _ _ _ _ _ _) h
  | andcm p rd rs1 rs2 =>
    exact nexts_of_writeReg (i := .andcm p rd rs1 rs2) (by simp [opcodeOf, encode, fOpcode_fmt4a]) (fRd_fmt4a _ _ _ _ _ _ _ _) h
  | orReg p rd rs1 rs2 =>
    exact nexts_of_writeReg (i := .orReg p rd rs1 rs2) (by simp [opcodeOf, encode, fOpcode_fmt4a]) (fRd_fmt4a _ _ _ _ _ _ _ _) h
  | xorReg p rd rs1 rs2 =>
    exact nexts_of_writeReg (i := .xorReg p rd rs1 rs2) (by simp [opcodeOf, encode, fOpcode_fmt4a]) (fRd_fmt4a _ _ _ _ _ _ _ _) h
  | notReg p rd rs1 =>
    exact nexts_of_writeReg (i := .notReg p rd rs1) (by simp [opcodeOf, encode, fOpcode_fmt4a]) (fRd_fmt4a _ _ _ _ _ _ _ _) h
  | pcmp1Eq p rd rs1 rs2 =>
    exact nexts_of_packed (i := .pcmp1Eq p rd rs1 rs2) (by simp [opcodeOf, encode, fOpcode_fmt4a]) (fRd_fmt4a _ _ _ _ _ _ _ _) h
  | pcmp2Eq p rd rs1 rs2 =>
    exact nexts_of_packed (i := .pcmp2Eq p rd rs1 rs2) (by simp [opcodeOf, encode, fOpcode_fmt4a]) (fRd_fmt4a _ _ _ _ _ _ _ _) h
  | pcmp4Eq p rd rs1 rs2 =>
    exact nexts_of_packed (i := .pcmp4Eq p rd rs1 rs2) (by simp [opcodeOf, encode, fOpcode_fmt4a]) (fRd_fmt4a _ _ _ _ _ _ _ _) h
  | pcmp8Eq p rd rs1 rs2 =>
    exact nexts_of_packed (i := .pcmp8Eq p rd rs1 rs2) (by simp [opcodeOf, encode, fOpcode_fmt4a]) (fRd_fmt4a _ _ _ _ _ _ _ _) h
  | pcmp1Gt p rd rs1 rs2 =>
    exact nexts_of_packed (i := .pcmp1Gt p rd rs1 rs2) (by simp [opcodeOf, encode, fOpcode_fmt4a]) (fRd_fmt4a _ _ _ _ _ _ _ _) h
  | pcmp2Gt p rd rs1 rs2 =>
    exact nexts_of_packed (i := .pcmp2Gt p rd rs1 rs2) (by simp [opcodeOf, encode, fOpcode_fmt4a]) (fRd_fmt4a _ _ _ _ _ _ _ _) h
  | pcmp4Gt p rd rs1 rs2 =>
    exact nexts_of_packed (i := .pcmp4Gt p rd rs1 rs2) (by simp [opcodeOf, encode, fOpcode_fmt4a]) (fRd_fmt4a _ _ _ _ _ _ _ _) h
  | pcmp8Gt p rd rs1 rs2 =>
    exact nexts_of_packed (i := .pcmp8Gt p rd rs1 rs2) (by simp [opcodeOf, encode, fOpcode_fmt4a]) (fRd_fmt4a _ _ _ _ _ _ _ _) h
  | pmax1 p rd rs1 rs2 =>
    exact nexts_of_packed (i := .pmax1 p rd rs1 rs2) (by simp [opcodeOf, encode, fOpcode_fmt4a]) (fRd_fmt4a _ _ _ _ _ _ _ _) h
  | pmax2 p rd rs1 rs2 =>
    exact nexts_of_packed (i := .pmax2 p rd rs1 rs2) (by simp [opcodeOf, encode, fOpcode_fmt4a]) (fRd_fmt4a _ _ _ _ _ _ _ _) h
  | pmin1 p rd rs1 rs2 =>
    exact nexts_of_packed (i := .pmin1 p rd rs1 rs2) (by simp [opcodeOf, encode, fOpcode_fmt4a]) (fRd_fmt4a _ _ _ _ _ _ _ _) h
  | pmin2 p rd rs1 rs2 =>
    exact nexts_of_packed (i := .pmin2 p rd rs1 rs2) (by simp [opcodeOf, encode, fOpcode_fmt4a]) (fRd_fmt4a _ _ _ _ _ _ _ _) h
  | pshiftadd1L p rd rs1 rs2 =>
    exact nexts_of_packed (i := .pshiftadd1L p rd rs1 rs2) (by simp [opcodeOf, encode, fOpcode_fmt4a]) (fRd_fmt4a _ _ _ _ _ _ _ _) h
  | pshiftadd2L p rd rs1 rs2 =>
    exact nexts_of_packed (i := .pshiftadd2L p rd rs1 rs2) (by simp [opcodeOf, encode, fOpcode_fmt4a]) (fRd_fmt4a _ _ _ _ _ _ _ _) h
  | pshiftadd3L p rd rs1 rs2 =>
    exact nexts_of_packed (i := .pshiftadd3L p rd rs1 rs2) (by simp [opcodeOf, encode, fOpcode_fmt4a]) (fRd_fmt4a _ _ _ _ _ _ _ _) h
  | pshiftadd1R p rd rs1 rs2 =>
    exact nexts_of_packed (i := .pshiftadd1R p rd rs1 rs2) (by simp [opcodeOf, encode, fOpcode_fmt4a]) (fRd_fmt4a _ _ _ _ _ _ _ _) h
  | pshiftadd2R p rd rs1 rs2 =>
    exact nexts_of_packed (i := .pshiftadd2R p rd rs1 rs2) (by simp [opcodeOf, encode, fOpcode_fmt4a]) (fRd_fmt4a _ _ _ _ _ _ _ _) h
  | pshiftadd3R p rd rs1 rs2 =>
    exact nexts_of_packed (i := .pshiftadd3R p rd rs1 rs2) (by simp [opcodeOf, encode, fOpcode_fmt4a]) (fRd_fmt4a _ _ _ _ _ _ _ _) h
  | pmulOdd p rd rs1 rs2 =>
    exact nexts_of_writeReg (i := .pmulOdd p rd rs1 rs2) (by simp [opcodeOf, encode, fOpcode_fmt4a]) (fRd_fmt4a _ _ _ _ _ _ _ _) h
  | pmulEven p rd rs1 rs2 =>
    exact nexts_of_writeReg (i := .pmulEven p rd rs1 rs2) (by simp [opcodeOf, encode, fOpcode_fmt4a]) (fRd_fmt4a _ _ _ _ _ _ _ _) h
  | pmulshr0 p rd rs1 rs2 =>
    exact nexts_of_mulShift (i := .pmulshr0 p rd rs1 rs2) (by simp [opcodeOf, encode, fOpcode_fmt4a]) (fRd_fmt4a _ _ _ _ _ _ _ _) h
  | pmulshr8 p rd rs1 rs2 =>
    exact nexts_of_mulShift (i := .pmulshr8 p rd rs1 rs2) (by simp [opcodeOf, encode, fOpcode_fmt4a]) (fRd_fmt4a _ _ _ _ _ _ _ _) h
  | pmulshr15 p rd rs1 rs2 =>
    exact nexts_of_mulShift (i := .pmulshr15 p rd rs1 rs2) (by simp [opcodeOf, encode, fOpcode_fmt4a]) (fRd_fmt4a _ _ _ _ _ _ _ _) h
  | pmulshr16 p rd rs1 rs2 =>
    exact nexts_of_mulShift (i := .pmulshr16 p rd rs1 rs2) (by simp [opcodeOf, encode, fOpcode_fmt4a]) (fRd_fmt4a _ _ _ _ _ _ _ _) h
  | pmulshr0A p rd rs1 rs2 =>
    exact nexts_of_mulShift (i := .pmulshr0A p rd rs1 rs2) (by simp [opcodeOf, encode, fOpcode_fmt4a]) (fRd_fmt4a _ _ _ _ _ _ _ _) h
  | pmulshr8A p rd rs1 rs2 =>
    exact nexts_of_mulShift (i := .pmulshr8A p rd rs1 rs2) (by simp [opcodeOf, encode, fOpcode_fmt4a]) (fRd_fmt4a _ _ _ _ _ _ _ _) h
  | pmulshr15A p rd rs1 rs2 =>
    exact nexts_of_mulShift (i := .pmulshr15A p rd rs1 rs2) (by simp [opcodeOf, encode, fOpcode_fmt4a]) (fRd_fmt4a _ _ _ _ _ _ _ _) h
  | pmulshr16A p rd rs1 rs2 =>
    exact nexts_of_mulShift (i := .pmulshr16A p rd rs1 rs2) (by simp [opcodeOf, encode, fOpcode_fmt4a]) (fRd_fmt4a _ _ _ _ _ _ _ _) h
  | pshift2L p rd rs1 rs2 =>
    exact nexts_of_shiftLanes (i := .pshift2L p rd rs1 rs2) (by simp [opcodeOf, encode, fOpcode_fmt4a]) (fRd_fmt4a _ _ _ _ _ _ _ _) h
  | pshift4L p rd rs1 rs2 =>
    exact nexts_of_shiftLanes (i := .pshift4L p rd rs1 rs2) (by simp [opcodeOf, encode, fOpcode_fmt4a]) (fRd_fmt4a _ _ _ _ _ _ _ _) h
  | pshift8L p rd rs1 rs2 =>
    exact nexts_of_shiftLanes (i := .pshift8L p rd rs1 rs2) (by simp [opcodeOf, encode, fOpcode_fmt4a]) (fRd_fmt4a _ _ _ _ _ _ _ _) h
  | pshift2R p rd rs1 rs2 =>
    exact nexts_of_shiftLanes (i := .pshift2R p rd rs1 rs2) (by simp [opcodeOf, encode, fOpcode_fmt4a]) (fRd_fmt4a _ _ _ _ _ _ _ _) h
  | pshift4R p rd rs1 rs2 =>
    exact nexts_of_shiftLanes (i := .pshift4R p rd rs1 rs2) (by simp [opcodeOf, encode, fOpcode_fmt4a]) (fRd_fmt4a _ _ _ _ _ _ _ _) h
  | pshift8R p rd rs1 rs2 =>
    exact nexts_of_shiftLanes (i := .pshift8R p rd rs1 rs2) (by simp [opcodeOf, encode, fOpcode_fmt4a]) (fRd_fmt4a _ _ _ _ _ _ _ _) h
  | pshift2Ra p rd rs1 rs2 =>
    exact nexts_of_shiftLanes (i := .pshift2Ra p rd rs1 rs2) (by simp [opcodeOf, encode, fOpcode_fmt4a]) (fRd_fmt4a _ _ _ _ _ _ _ _) h
  | pshift4Ra p rd rs1 rs2 =>
    exact nexts_of_shiftLanes (i := .pshift4Ra p rd rs1 rs2) (by simp [opcodeOf, encode, fOpcode_fmt4a]) (fRd_fmt4a _ _ _ _ _ _ _ _) h
  | pshift8Ra p rd rs1 rs2 =>
    exact nexts_of_shiftLanes (i := .pshift8Ra p rd rs1 rs2) (by simp [opcodeOf, encode, fOpcode_fmt4a]) (fRd_fmt4a _ _ _ _ _ _ _ _) h
  | pshifti2L p rd rs1 imm5 =>
    exact nexts_of_shiftLanes (i := .pshifti2L p rd rs1 imm5) (by simp [opcodeOf, encode, fOpcode_fmt4b]) (fRd_fmt4b _ _ _ _ _ _ _ _) h
  | pshifti4L p rd rs1 imm5 =>
    exact nexts_of_shiftLanes (i := .pshifti4L p rd rs1 imm5) (by simp [opcodeOf, encode, fOpcode_fmt4b]) (fRd_fmt4b _ _ _ _ _ _ _ _) h
  | pshifti8L p rd rs1 imm5 =>
    exact nexts_of_shiftLanes (i := .pshifti8L p rd rs1 imm5) (by simp [opcodeOf, encode, fOpcode_fmt4b]) (fRd_fmt4b _ _ _ _ _ _ _ _) h
  | pshifti2R p rd rs1 imm5 =>
    exact nexts_of_shiftLanes (i := .pshifti2R p rd rs1 imm5) (by simp [opcodeOf, encode, fOpcode_fmt4b]) (fRd_fmt4b _ _ _ _ _ _ _ _) h
  | pshifti4R p rd rs1 imm5 =>
    exact nexts_of_shiftLanes (i := .pshifti4R p rd rs1 imm5) (by simp [opcodeOf, encode, fOpcode_fmt4b]) (fRd_fmt4b _ _ _ _ _ _ _ _) h
  | pshifti8R p rd rs1 imm5 =>
    exact nexts_of_shiftLanes (i := .pshifti8R p rd rs1 imm5) (by simp [opcodeOf, encode, fOpcode_fmt4b]) (fRd_fmt4b _ _ _ _ _ _ _ _) h
  | pshifti2Ra p rd rs1 imm5 =>
    exact nexts_of_shiftLanes (i := .pshifti2Ra p rd rs1 imm5) (by simp [opcodeOf, encode, fOpcode_fmt4b]) (fRd_fmt4b _ _ _ _ _ _ _ _) h
  | pshifti4Ra p rd rs1 imm5 =>
    exact nexts_of_shiftLanes (i := .pshifti4Ra p rd rs1 imm5) (by simp [opcodeOf, encode, fOpcode_fmt4b]) (fRd_fmt4b _ _ _ _ _ _ _ _) h
  | pshifti8Ra p rd rs1 imm5 =>
    exact nexts_of_shiftLanes (i := .pshifti8Ra p rd rs1 imm5) (by simp [opcodeOf, encode, fOpcode_fmt4b]) (fRd_fmt4b _ _ _ _ _ _ _ _) h

/-- A step that answers a next state leaves a halted machine as it is, or runs the instruction that the word at the pc
decodes to under the configuration's ENCODING. -/
theorem step_next {s t : State} (h : step s = .next t) :
    (s.halted = true ∧ t = s) ∨ ∃ i w, s.halted = false ∧ fetchWord s = .ok w
      ∧ decodeUnder s.cfg.encoding s.cfg.xlen w = .ok i ∧ exec i s = .next t := by
  unfold step at h
  split at h
  · rename_i hf
    unfold frontEnd at hf
    split at hf
    · injection h with h
      exact .inl ⟨by assumption, h.symm⟩
    · split at hf
      · cases hf
      · split at hf <;> cases hf
  · cases h
  · rename_i i hf
    obtain ⟨hh, w, hw, hd⟩ := frontEnd_run hf
    exact .inr ⟨i, w, hh, hw, hd, h⟩

end Sys2Proof.Machine
end

