-- ==== Sys2Proof/Laws/Lanes.lean ====
section
/-! SUPPORT. Lanes: what every lane of an assembled value is (00_scope.md R8, R9). -/

namespace Sys2Proof.Machine
open Sys2Proof

theorem getLsbD_lane {N : Nat} (w : Nat) (v : BitVec N) (k i : Nat) :
    (lane w v k).getLsbD i = (decide (i < w) && v.getLsbD (w * k + i)) := by
  simp [lane, BitVec.getLsbD_extractLsb']

/-- Bits at or above lane n of a value of n lanes are 0. -/
theorem getLsbD_ofLanes_ge (N w : Nat) (g : Nat → BitVec w) (n j : Nat) (h : w * n ≤ j) :
    (ofLanes N w g n).getLsbD j = false := by
  induction n with
  | zero => simp [ofLanes]
  | succ n ih =>
    have h' : w * n + w ≤ j := by rwa [Nat.mul_succ] at h
    simp only [ofLanes, BitVec.getLsbD_or, BitVec.getLsbD_shiftLeft, BitVec.getLsbD_setWidth,
      ih (by omega), Bool.false_or]
    have : (g n).getLsbD (j - w * n) = false := BitVec.getLsbD_of_ge _ _ (by omega)
    simp [this]

/-- Bit i of lane k of a value of n lanes. -/
theorem getLsbD_ofLanes (N w : Nat) (g : Nat → BitVec w) (n k i : Nat) (hn : w * n ≤ N) (hk : k < n) (hi : i < w) :
    (ofLanes N w g n).getLsbD (w * k + i) = (g k).getLsbD i := by
  induction n with
  | zero => omega
  | succ n ih =>
    have hn' : w * n + w ≤ N := by rwa [Nat.mul_succ] at hn
    simp only [ofLanes, BitVec.getLsbD_or, BitVec.getLsbD_shiftLeft, BitVec.getLsbD_setWidth]
    by_cases hkn : k = n
    · subst hkn
      rw [getLsbD_ofLanes_ge N w g k _ (by omega)]
      have h1 : w * k + i < N := by omega
      have h2 : i < N := by omega
      simp [h1, h2]
    · have hlt : w * k + w ≤ w * n := by
        have := Nat.mul_le_mul_left w (show k + 1 ≤ n by omega)
        rwa [Nat.mul_succ] at this
      rw [ih (by omega) (by omega)]
      have h1 : w * k + i < w * n := by omega
      simp [h1]

/-- Lane k of a value of n lanes is its k-th part. -/
theorem lane_ofLanes (N w : Nat) (g : Nat → BitVec w) (n k : Nat) (hn : w * n ≤ N) (hk : k < n) :
    lane w (ofLanes N w g n) k = g k := by
  apply BitVec.eq_of_getLsbD_eq
  intro i hi
  rw [getLsbD_lane, getLsbD_ofLanes N w g n k i hn hk hi]
  simp [hi]

/-- The lanes of a register fit in it. -/
theorem mul_laneCount_le (N w : Nat) : w * laneCount N w ≤ N := Nat.mul_div_le N w

/-- Lane k of a lanewise operation (45_alu_packed.md R210). -/
theorem lane_zipLanes {N : Nat} (w : Nat) (f : BitVec w → BitVec w → BitVec w) (a b : BitVec N) (k : Nat)
    (hk : k < laneCount N w) : lane w (zipLanes w f a b) k = f (lane w a k) (lane w b k) :=
  lane_ofLanes N w _ _ k (mul_laneCount_le N w) hk

/-- Lane k of a lanewise operation on one source. -/
theorem lane_mapLanes {N : Nat} (w : Nat) (f : BitVec w → BitVec w) (a : BitVec N) (k : Nat)
    (hk : k < laneCount N w) : lane w (mapLanes w f a) k = f (lane w a k) :=
  lane_ofLanes N w _ _ k (mul_laneCount_le N w) hk

/-- Lane k of a value given by its subwords from the left. -/
theorem lane_ofOrds (N w : Nat) (g : Nat → BitVec w) (k : Nat) (hk : k < laneCount N w) :
    lane w (ofOrds N w g) k = g (laneCount N w - k) :=
  lane_ofLanes N w _ _ k (mul_laneCount_le N w) hk

/-- Subword i from the left of a value given so (00_scope.md R9). -/
theorem ord_ofOrds (N w : Nat) (g : Nat → BitVec w) (i : Nat) (h1 : 1 ≤ i) (hi : i ≤ laneCount N w) :
    ord w (ofOrds N w g) i = g i := by
  unfold ord
  rw [lane_ofOrds N w g _ (by omega)]
  congr 1; omega

/-- 32-bit lane j of pmul (46_multiply_packed.md R251, R252). -/
theorem lane_mulLanes {N : Nat} (odd : Nat) (a b : BitVec N) (j : Nat) (hj : j < laneCount N 32) :
    lane 32 (mulLanes odd a b) j
      = BitVec.ofInt 32 ((lane 16 a (2 * j + odd)).toInt * (lane 16 b (2 * j + odd)).toInt) :=
  lane_ofLanes N 32 _ _ j (mul_laneCount_le N 32) hj

end Sys2Proof.Machine
end

