-- ==== Sys2Proof/Laws/PerInstr.lean ====
section
/-! SUPPORT. One lemma per instruction for the family of LAWS.json: the guard field of an instruction's word is the
instruction's guard (30_encoding.md R84). -/

namespace Sys2Proof.Laws.GuardField

/-- The guard field of the word of an instruction is the instruction's guard. -/
def Statement (i : Instr) : Prop := fP (encode i) = i.guardField

theorem jmp (p : Pred) (imm23 : BitVec 23) : Statement (.jmp p imm23) :=
  fP_fmt0 _ _ _
theorem jmpLink (p : Pred) (imm23 : BitVec 23) : Statement (.jmpLink p imm23) :=
  fP_fmt0 _ _ _
theorem trap (p : Pred) : Statement (.trap p) :=
  fP_fmt0 _ _ _
theorem jmpReg (p : Pred) (rd : Reg) : Statement (.jmpReg p rd) :=
  fP_fmt1 _ _ _ _
theorem jmpRegLink (p : Pred) (rd : Reg) : Statement (.jmpRegLink p rd) :=
  fP_fmt1 _ _ _ _
theorem loadiHi (p : Pred) (rd : Reg) (imm16 : BitVec 16) : Statement (.loadiHi p rd imm16) :=
  fP_fmt1 _ _ _ _
theorem loadiLo (p : Pred) (rd : Reg) (imm16 : BitVec 16) : Statement (.loadiLo p rd imm16) :=
  fP_fmt1 _ _ _ _
theorem cmpEq (p : Pred) (rs1 rs2 : Reg) (pa pb : Pred) : Statement (.cmpEq p rs1 rs2 pa pb) :=
  fP_fmt5a _ _ _ _ _ _ _
theorem cmpNe (p : Pred) (rs1 rs2 : Reg) (pa pb : Pred) : Statement (.cmpNe p rs1 rs2 pa pb) :=
  fP_fmt5a _ _ _ _ _ _ _
theorem cmpLt (p : Pred) (rs1 rs2 : Reg) (pa pb : Pred) : Statement (.cmpLt p rs1 rs2 pa pb) :=
  fP_fmt5a _ _ _ _ _ _ _
theorem cmpLe (p : Pred) (rs1 rs2 : Reg) (pa pb : Pred) : Statement (.cmpLe p rs1 rs2 pa pb) :=
  fP_fmt5a _ _ _ _ _ _ _
theorem cmpGt (p : Pred) (rs1 rs2 : Reg) (pa pb : Pred) : Statement (.cmpGt p rs1 rs2 pa pb) :=
  fP_fmt5a _ _ _ _ _ _ _
theorem cmpGe (p : Pred) (rs1 rs2 : Reg) (pa pb : Pred) : Statement (.cmpGe p rs1 rs2 pa pb) :=
  fP_fmt5a _ _ _ _ _ _ _
theorem cmpLtu (p : Pred) (rs1 rs2 : Reg) (pa pb : Pred) : Statement (.cmpLtu p rs1 rs2 pa pb) :=
  fP_fmt5a _ _ _ _ _ _ _
theorem cmpLeu (p : Pred) (rs1 rs2 : Reg) (pa pb : Pred) : Statement (.cmpLeu p rs1 rs2 pa pb) :=
  fP_fmt5a _ _ _ _ _ _ _
theorem cmpGtu (p : Pred) (rs1 rs2 : Reg) (pa pb : Pred) : Statement (.cmpGtu p rs1 rs2 pa pb) :=
  fP_fmt5a _ _ _ _ _ _ _
theorem cmpGeu (p : Pred) (rs1 rs2 : Reg) (pa pb : Pred) : Statement (.cmpGeu p rs1 rs2 pa pb) :=
  fP_fmt5a _ _ _ _ _ _ _
theorem cmpiEq (p : Pred) (rs1 : Reg) (imm8 : BitVec 8) (pa pb : Pred) : Statement (.cmpiEq p rs1 imm8 pa pb) :=
  fP_fmt5b _ _ _ _ _ _ _
theorem cmpiNe (p : Pred) (rs1 : Reg) (imm8 : BitVec 8) (pa pb : Pred) : Statement (.cmpiNe p rs1 imm8 pa pb) :=
  fP_fmt5b _ _ _ _ _ _ _
theorem cmpiLt (p : Pred) (rs1 : Reg) (imm8 : BitVec 8) (pa pb : Pred) : Statement (.cmpiLt p rs1 imm8 pa pb) :=
  fP_fmt5b _ _ _ _ _ _ _
theorem cmpiLe (p : Pred) (rs1 : Reg) (imm8 : BitVec 8) (pa pb : Pred) : Statement (.cmpiLe p rs1 imm8 pa pb) :=
  fP_fmt5b _ _ _ _ _ _ _
theorem cmpiGt (p : Pred) (rs1 : Reg) (imm8 : BitVec 8) (pa pb : Pred) : Statement (.cmpiGt p rs1 imm8 pa pb) :=
  fP_fmt5b _ _ _ _ _ _ _
theorem cmpiGe (p : Pred) (rs1 : Reg) (imm8 : BitVec 8) (pa pb : Pred) : Statement (.cmpiGe p rs1 imm8 pa pb) :=
  fP_fmt5b _ _ _ _ _ _ _
theorem cmpiLtu (p : Pred) (rs1 : Reg) (imm8 : BitVec 8) (pa pb : Pred) : Statement (.cmpiLtu p rs1 imm8 pa pb) :=
  fP_fmt5b _ _ _ _ _ _ _
theorem cmpiLeu (p : Pred) (rs1 : Reg) (imm8 : BitVec 8) (pa pb : Pred) : Statement (.cmpiLeu p rs1 imm8 pa pb) :=
  fP_fmt5b _ _ _ _ _ _ _
theorem cmpiGtu (p : Pred) (rs1 : Reg) (imm8 : BitVec 8) (pa pb : Pred) : Statement (.cmpiGtu p rs1 imm8 pa pb) :=
  fP_fmt5b _ _ _ _ _ _ _
theorem cmpiGeu (p : Pred) (rs1 : Reg) (imm8 : BitVec 8) (pa pb : Pred) : Statement (.cmpiGeu p rs1 imm8 pa pb) :=
  fP_fmt5b _ _ _ _ _ _ _
theorem testbit (p : Pred) (rd : Reg) (imm8 : BitVec 8) (pa pb : Pred) : Statement (.testbit p rd imm8 pa pb) :=
  fP_fmt5b _ _ _ _ _ _ _
theorem changepr (p : Pred) (imm4 : BitVec 4) : Statement (.changepr p imm4) :=
  fP_fmt5b _ _ _ _ _ _ _
theorem changeprLd (p : Pred) (imm4 : BitVec 4) (imm8 : BitVec 8) : Statement (.changeprLd p imm4 imm8) :=
  fP_fmt5b _ _ _ _ _ _ _
theorem mix1L (p : Pred) (rd rs1 rs2 : Reg) : Statement (.mix1L p rd rs1 rs2) :=
  fP_fmt4a _ _ _ _ _ _ _ _
theorem mix2L (p : Pred) (rd rs1 rs2 : Reg) : Statement (.mix2L p rd rs1 rs2) :=
  fP_fmt4a _ _ _ _ _ _ _ _
theorem mix4L (p : Pred) (rd rs1 rs2 : Reg) : Statement (.mix4L p rd rs1 rs2) :=
  fP_fmt4a _ _ _ _ _ _ _ _
theorem mix1R (p : Pred) (rd rs1 rs2 : Reg) : Statement (.mix1R p rd rs1 rs2) :=
  fP_fmt4a _ _ _ _ _ _ _ _
theorem mix2R (p : Pred) (rd rs1 rs2 : Reg) : Statement (.mix2R p rd rs1 rs2) :=
  fP_fmt4a _ _ _ _ _ _ _ _
theorem mix4R (p : Pred) (rd rs1 rs2 : Reg) : Statement (.mix4R p rd rs1 rs2) :=
  fP_fmt4a _ _ _ _ _ _ _ _
theorem muxRev (p : Pred) (rd rs1 : Reg) : Statement (.muxRev p rd rs1) :=
  fP_fmt4b _ _ _ _ _ _ _ _
theorem muxMix (p : Pred) (rd rs1 : Reg) : Statement (.muxMix p rd rs1) :=
  fP_fmt4b _ _ _ _ _ _ _ _
theorem muxShuf (p : Pred) (rd rs1 : Reg) : Statement (.muxShuf p rd rs1) :=
  fP_fmt4b _ _ _ _ _ _ _ _
theorem muxAlt (p : Pred) (rd rs1 : Reg) : Statement (.muxAlt p rd rs1) :=
  fP_fmt4b _ _ _ _ _ _ _ _
theorem muxBrcst (p : Pred) (rd rs1 : Reg) : Statement (.muxBrcst p rd rs1) :=
  fP_fmt4b _ _ _ _ _ _ _ _
theorem perm (p : Pred) (rd rs1 rs2 : Reg) : Statement (.perm p rd rs1 rs2) :=
  fP_fmt4a _ _ _ _ _ _ _ _
theorem load1 (p : Pred) (rd rs1 : Reg) (imm13 : BitVec 13) : Statement (.load1 p rd rs1 imm13) :=
  fP_fmt2 _ _ _ _ _
theorem load2 (p : Pred) (rd rs1 : Reg) (imm13 : BitVec 13) : Statement (.load2 p rd rs1 imm13) :=
  fP_fmt2 _ _ _ _ _
theorem load4 (p : Pred) (rd rs1 : Reg) (imm13 : BitVec 13) : Statement (.load4 p rd rs1 imm13) :=
  fP_fmt2 _ _ _ _ _
theorem load8 (p : Pred) (rd rs1 : Reg) (imm13 : BitVec 13) : Statement (.load8 p rd rs1 imm13) :=
  fP_fmt2 _ _ _ _ _
theorem load1Update (p : Pred) (rd rs1 : Reg) (imm13 : BitVec 13) : Statement (.load1Update p rd rs1 imm13) :=
  fP_fmt2 _ _ _ _ _
theorem load2Update (p : Pred) (rd rs1 : Reg) (imm13 : BitVec 13) : Statement (.load2Update p rd rs1 imm13) :=
  fP_fmt2 _ _ _ _ _
theorem load4Update (p : Pred) (rd rs1 : Reg) (imm13 : BitVec 13) : Statement (.load4Update p rd rs1 imm13) :=
  fP_fmt2 _ _ _ _ _
theorem load8Update (p : Pred) (rd rs1 : Reg) (imm13 : BitVec 13) : Statement (.load8Update p rd rs1 imm13) :=
  fP_fmt2 _ _ _ _ _
theorem store1 (p : Pred) (rd rs1 : Reg) (imm13 : BitVec 13) : Statement (.store1 p rd rs1 imm13) :=
  fP_fmt2 _ _ _ _ _
theorem store2 (p : Pred) (rd rs1 : Reg) (imm13 : BitVec 13) : Statement (.store2 p rd rs1 imm13) :=
  fP_fmt2 _ _ _ _ _
theorem store4 (p : Pred) (rd rs1 : Reg) (imm13 : BitVec 13) : Statement (.store4 p rd rs1 imm13) :=
  fP_fmt2 _ _ _ _ _
theorem store8 (p : Pred) (rd rs1 : Reg) (imm13 : BitVec 13) : Statement (.store8 p rd rs1 imm13) :=
  fP_fmt2 _ _ _ _ _
theorem store1Update (p : Pred) (rd rs1 : Reg) (imm13 : BitVec 13) : Statement (.store1Update p rd rs1 imm13) :=
  fP_fmt2 _ _ _ _ _
theorem store2Update (p : Pred) (rd rs1 : Reg) (imm13 : BitVec 13) : Statement (.store2Update p rd rs1 imm13) :=
  fP_fmt2 _ _ _ _ _
theorem store4Update (p : Pred) (rd rs1 : Reg) (imm13 : BitVec 13) : Statement (.store4Update p rd rs1 imm13) :=
  fP_fmt2 _ _ _ _ _
theorem store8Update (p : Pred) (rd rs1 : Reg) (imm13 : BitVec 13) : Statement (.store8Update p rd rs1 imm13) :=
  fP_fmt2 _ _ _ _ _
theorem addi (p : Pred) (rd rs1 : Reg) (imm13 : BitVec 13) : Statement (.addi p rd rs1 imm13) :=
  fP_fmt2 _ _ _ _ _
theorem subi (p : Pred) (rd rs1 : Reg) (imm13 : BitVec 13) : Statement (.subi p rd rs1 imm13) :=
  fP_fmt2 _ _ _ _ _
theorem andi (p : Pred) (rd rs1 : Reg) (imm13 : BitVec 13) : Statement (.andi p rd rs1 imm13) :=
  fP_fmt2 _ _ _ _ _
theorem ori (p : Pred) (rd rs1 : Reg) (imm13 : BitVec 13) : Statement (.ori p rd rs1 imm13) :=
  fP_fmt2 _ _ _ _ _
theorem xori (p : Pred) (rd rs1 : Reg) (imm13 : BitVec 13) : Statement (.xori p rd rs1 imm13) :=
  fP_fmt2 _ _ _ _ _
theorem slli (p : Pred) (rd rs1 : Reg) (imm13 : BitVec 13) : Statement (.slli p rd rs1 imm13) :=
  fP_fmt2 _ _ _ _ _
theorem srli (p : Pred) (rd rs1 : Reg) (imm13 : BitVec 13) : Statement (.srli p rd rs1 imm13) :=
  fP_fmt2 _ _ _ _ _
theorem srai (p : Pred) (rd rs1 : Reg) (imm13 : BitVec 13) : Statement (.srai p rd rs1 imm13) :=
  fP_fmt2 _ _ _ _ _
theorem shrp (p : Pred) (rd rs1 rs2 : Reg) (imm8 : BitVec 8) : Statement (.shrp p rd rs1 rs2 imm8) :=
  fP_fmt4c _ _ _ _ _ _
theorem extract (p : Pred) (rd rs1 : Reg) (imm7 : BitVec 7) (imm6 : BitVec 6) : Statement (.extract p rd rs1 imm7 imm6) :=
  fP_fmt3 _ _ _ _ _ _
theorem deposit (p : Pred) (rd rs1 : Reg) (imm7 : BitVec 7) (imm6 : BitVec 6) : Statement (.deposit p rd rs1 imm7 imm6) :=
  fP_fmt3 _ _ _ _ _ _
theorem padd1 (p : Pred) (rd rs1 rs2 : Reg) : Statement (.padd1 p rd rs1 rs2) :=
  fP_fmt4a _ _ _ _ _ _ _ _
theorem padd2 (p : Pred) (rd rs1 rs2 : Reg) : Statement (.padd2 p rd rs1 rs2) :=
  fP_fmt4a _ _ _ _ _ _ _ _
theorem padd4 (p : Pred) (rd rs1 rs2 : Reg) : Statement (.padd4 p rd rs1 rs2) :=
  fP_fmt4a _ _ _ _ _ _ _ _
theorem padd8 (p : Pred) (rd rs1 rs2 : Reg) : Statement (.padd8 p rd rs1 rs2) :=
  fP_fmt4a _ _ _ _ _ _ _ _
theorem padd1U (p : Pred) (rd rs1 rs2 : Reg) : Statement (.padd1U p rd rs1 rs2) :=
  fP_fmt4a _ _ _ _ _ _ _ _
theorem padd2U (p : Pred) (rd rs1 rs2 : Reg) : Statement (.padd2U p rd rs1 rs2) :=
  fP_fmt4a _ _ _ _ _ _ _ _
theorem padd4U (p : Pred) (rd rs1 rs2 : Reg) : Statement (.padd4U p rd rs1 rs2) :=
  fP_fmt4a _ _ _ _ _ _ _ _
theorem padd8U (p : Pred) (rd rs1 rs2 : Reg) : Statement (.padd8U p rd rs1 rs2) :=
  fP_fmt4a _ _ _ _ _ _ _ _
theorem padd1S (p : Pred) (rd rs1 rs2 : Reg) : Statement (.padd1S p rd rs1 rs2) :=
  fP_fmt4a _ _ _ _ _ _ _ _
theorem padd2S (p : Pred) (rd rs1 rs2 : Reg) : Statement (.padd2S p rd rs1 rs2) :=
  fP_fmt4a _ _ _ _ _ _ _ _
theorem padd4S (p : Pred) (rd rs1 rs2 : Reg) : Statement (.padd4S p rd rs1 rs2) :=
  fP_fmt4a _ _ _ _ _ _ _ _
theorem padd8S (p : Pred) (rd rs1 rs2 : Reg) : Statement (.padd8S p rd rs1 rs2) :=
  fP_fmt4a _ _ _ _ _ _ _ _
theorem paddincr1 (p : Pred) (rd rs1 rs2 : Reg) : Statement (.paddincr1 p rd rs1 rs2) :=
  fP_fmt4a _ _ _ _ _ _ _ _
theorem paddincr2 (p : Pred) (rd rs1 rs2 : Reg) : Statement (.paddincr2 p rd rs1 rs2) :=
  fP_fmt4a _ _ _ _ _ _ _ _
theorem paddincr4 (p : Pred) (rd rs1 rs2 : Reg) : Statement (.paddincr4 p rd rs1 rs2) :=
  fP_fmt4a _ _ _ _ _ _ _ _
theorem paddincr8 (p : Pred) (rd rs1 rs2 : Reg) : Statement (.paddincr8 p rd rs1 rs2) :=
  fP_fmt4a _ _ _ _ _ _ _ _
theorem psub1 (p : Pred) (rd rs1 rs2 : Reg) : Statement (.psub1 p rd rs1 rs2) :=
  fP_fmt4a _ _ _ _ _ _ _ _
theorem psub2 (p : Pred) (rd rs1 rs2 : Reg) : Statement (.psub2 p rd rs1 rs2) :=
  fP_fmt4a _ _ _ _ _ _ _ _
theorem psub4 (p : Pred) (rd rs1 rs2 : Reg) : Statement (.psub4 p rd rs1 rs2) :=
  fP_fmt4a _ _ _ _ _ _ _ _
theorem psub8 (p : Pred) (rd rs1 rs2 : Reg) : Statement (.psub8 p rd rs1 rs2) :=
  fP_fmt4a _ _ _ _ _ _ _ _
theorem psub1U (p : Pred) (rd rs1 rs2 : Reg) : Statement (.psub1U p rd rs1 rs2) :=
  fP_fmt4a _ _ _ _ _ _ _ _
theorem psub2U (p : Pred) (rd rs1 rs2 : Reg) : Statement (.psub2U p rd rs1 rs2) :=
  fP_fmt4a _ _ _ _ _ _ _ _
theorem psub4U (p : Pred) (rd rs1 rs2 : Reg) : Statement (.psub4U p rd rs1 rs2) :=
  fP_fmt4a _ _ _ _ _ _ _ _
theorem psub8U (p : Pred) (rd rs1 rs2 : Reg) : Statement (.psub8U p rd rs1 rs2) :=
  fP_fmt4a _ _ _ _ _ _ _ _
theorem psub1S (p : Pred) (rd rs1 rs2 : Reg) : Statement (.psub1S p rd rs1 rs2) :=
  fP_fmt4a _ _ _ _ _ _ _ _
theorem psub2S (p : Pred) (rd rs1 rs2 : Reg) : Statement (.psub2S p rd rs1 rs2) :=
  fP_fmt4a _ _ _ _ _ _ _ _
theorem psub4S (p : Pred) (rd rs1 rs2 : Reg) : Statement (.psub4S p rd rs1 rs2) :=
  fP_fmt4a _ _ _ _ _ _ _ _
theorem psub8S (p : Pred) (rd rs1 rs2 : Reg) : Statement (.psub8S p rd rs1 rs2) :=
  fP_fmt4a _ _ _ _ _ _ _ _
theorem psubdecr1 (p : Pred) (rd rs1 rs2 : Reg) : Statement (.psubdecr1 p rd rs1 rs2) :=
  fP_fmt4a _ _ _ _ _ _ _ _
theorem psubdecr2 (p : Pred) (rd rs1 rs2 : Reg) : Statement (.psubdecr2 p rd rs1 rs2) :=
  fP_fmt4a _ _ _ _ _ _ _ _
theorem psubdecr4 (p : Pred) (rd rs1 rs2 : Reg) : Statement (.psubdecr4 p rd rs1 rs2) :=
  fP_fmt4a _ _ _ _ _ _ _ _
theorem psubdecr8 (p : Pred) (rd rs1 rs2 : Reg) : Statement (.psubdecr8 p rd rs1 rs2) :=
  fP_fmt4a _ _ _ _ _ _ _ _
theorem pavg1 (p : Pred) (rd rs1 rs2 : Reg) : Statement (.pavg1 p rd rs1 rs2) :=
  fP_fmt4a _ _ _ _ _ _ _ _
theorem pavg2 (p : Pred) (rd rs1 rs2 : Reg) : Statement (.pavg2 p rd rs1 rs2) :=
  fP_fmt4a _ _ _ _ _ _ _ _
theorem pavg1Raz (p : Pred) (rd rs1 rs2 : Reg) : Statement (.pavg1Raz p rd rs1 rs2) :=
  fP_fmt4a _ _ _ _ _ _ _ _
theorem pavg2Raz (p : Pred) (rd rs1 rs2 : Reg) : Statement (.pavg2Raz p rd rs1 rs2) :=
  fP_fmt4a _ _ _ _ _ _ _ _
theorem psubavg1 (p : Pred) (rd rs1 rs2 : Reg) : Statement (.psubavg1 p rd rs1 rs2) :=
  fP_fmt4a _ _ _ _ _ _ _ _
theorem psubavg2 (p : Pred) (rd rs1 rs2 : Reg) : Statement (.psubavg2 p rd rs1 rs2) :=
  fP_fmt4a _ _ _ _ _ _ _ _
theorem andReg (p : Pred) (rd rs1 rs2 : Reg) : Statement (.andReg p rd rs1 rs2) :=
  fP_fmt4a _ _ _ _ _ _ _ _
theorem andcm (p : Pred) (rd rs1 rs2 : Reg) : Statement (.andcm p rd rs1 rs2) :=
  fP_fmt4a _ _ _ _ _ _ _ _
theorem orReg (p : Pred) (rd rs1 rs2 : Reg) : Statement (.orReg p rd rs1 rs2) :=
  fP_fmt4a _ _ _ _ _ _ _ _
theorem xorReg (p : Pred) (rd rs1 rs2 : Reg) : Statement (.xorReg p rd rs1 rs2) :=
  fP_fmt4a _ _ _ _ _ _ _ _
theorem notReg (p : Pred) (rd rs1 : Reg) : Statement (.notReg p rd rs1) :=
  fP_fmt4a _ _ _ _ _ _ _ _
theorem pcmp1Eq (p : Pred) (rd rs1 rs2 : Reg) : Statement (.pcmp1Eq p rd rs1 rs2) :=
  fP_fmt4a _ _ _ _ _ _ _ _
theorem pcmp2Eq (p : Pred) (rd rs1 rs2 : Reg) : Statement (.pcmp2Eq p rd rs1 rs2) :=
  fP_fmt4a _ _ _ _ _ _ _ _
theorem pcmp4Eq (p : Pred) (rd rs1 rs2 : Reg) : Statement (.pcmp4Eq p rd rs1 rs2) :=
  fP_fmt4a _ _ _ _ _ _ _ _
theorem pcmp8Eq (p : Pred) (rd rs1 rs2 : Reg) : Statement (.pcmp8Eq p rd rs1 rs2) :=
  fP_fmt4a _ _ _ _ _ _ _ _
theorem pcmp1Gt (p : Pred) (rd rs1 rs2 : Reg) : Statement (.pcmp1Gt p rd rs1 rs2) :=
  fP_fmt4a _ _ _ _ _ _ _ _
theorem pcmp2Gt (p : Pred) (rd rs1 rs2 : Reg) : Statement (.pcmp2Gt p rd rs1 rs2) :=
  fP_fmt4a _ _ _ _ _ _ _ _
theorem pcmp4Gt (p : Pred) (rd rs1 rs2 : Reg) : Statement (.pcmp4Gt p rd rs1 rs2) :=
  fP_fmt4a _ _ _ _ _ _ _ _
theorem pcmp8Gt (p : Pred) (rd rs1 rs2 : Reg) : Statement (.pcmp8Gt p rd rs1 rs2) :=
  fP_fmt4a _ _ _ _ _ _ _ _
theorem pmax1 (p : Pred) (rd rs1 rs2 : Reg) : Statement (.pmax1 p rd rs1 rs2) :=
  fP_fmt4a _ _ _ _ _ _ _ _
theorem pmax2 (p : Pred) (rd rs1 rs2 : Reg) : Statement (.pmax2 p rd rs1 rs2) :=
  fP_fmt4a _ _ _ _ _ _ _ _
theorem pmin1 (p : Pred) (rd rs1 rs2 : Reg) : Statement (.pmin1 p rd rs1 rs2) :=
  fP_fmt4a _ _ _ _ _ _ _ _
theorem pmin2 (p : Pred) (rd rs1 rs2 : Reg) : Statement (.pmin2 p rd rs1 rs2) :=
  fP_fmt4a _ _ _ _ _ _ _ _
theorem pshiftadd1L (p : Pred) (rd rs1 rs2 : Reg) : Statement (.pshiftadd1L p rd rs1 rs2) :=
  fP_fmt4a _ _ _ _ _ _ _ _
theorem pshiftadd2L (p : Pred) (rd rs1 rs2 : Reg) : Statement (.pshiftadd2L p rd rs1 rs2) :=
  fP_fmt4a _ _ _ _ _ _ _ _
theorem pshiftadd3L (p : Pred) (rd rs1 rs2 : Reg) : Statement (.pshiftadd3L p rd rs1 rs2) :=
  fP_fmt4a _ _ _ _ _ _ _ _
theorem pshiftadd1R (p : Pred) (rd rs1 rs2 : Reg) : Statement (.pshiftadd1R p rd rs1 rs2) :=
  fP_fmt4a _ _ _ _ _ _ _ _
theorem pshiftadd2R (p : Pred) (rd rs1 rs2 : Reg) : Statement (.pshiftadd2R p rd rs1 rs2) :=
  fP_fmt4a _ _ _ _ _ _ _ _
theorem pshiftadd3R (p : Pred) (rd rs1 rs2 : Reg) : Statement (.pshiftadd3R p rd rs1 rs2) :=
  fP_fmt4a _ _ _ _ _ _ _ _
theorem pmulOdd (p : Pred) (rd rs1 rs2 : Reg) : Statement (.pmulOdd p rd rs1 rs2) :=
  fP_fmt4a _ _ _ _ _ _ _ _
theorem pmulEven (p : Pred) (rd rs1 rs2 : Reg) : Statement (.pmulEven p rd rs1 rs2) :=
  fP_fmt4a _ _ _ _ _ _ _ _
theorem pmulshr0 (p : Pred) (rd rs1 rs2 : Reg) : Statement (.pmulshr0 p rd rs1 rs2) :=
  fP_fmt4a _ _ _ _ _ _ _ _
theorem pmulshr8 (p : Pred) (rd rs1 rs2 : Reg) : Statement (.pmulshr8 p rd rs1 rs2) :=
  fP_fmt4a _ _ _ _ _ _ _ _
theorem pmulshr15 (p : Pred) (rd rs1 rs2 : Reg) : Statement (.pmulshr15 p rd rs1 rs2) :=
  fP_fmt4a _ _ _ _ _ _ _ _
theorem pmulshr16 (p : Pred) (rd rs1 rs2 : Reg) : Statement (.pmulshr16 p rd rs1 rs2) :=
  fP_fmt4a _ _ _ _ _ _ _ _
theorem pmulshr0A (p : Pred) (rd rs1 rs2 : Reg) : Statement (.pmulshr0A p rd rs1 rs2) :=
  fP_fmt4a _ _ _ _ _ _ _ _
theorem pmulshr8A (p : Pred) (rd rs1 rs2 : Reg) : Statement (.pmulshr8A p rd rs1 rs2) :=
  fP_fmt4a _ _ _ _ _ _ _ _
theorem pmulshr15A (p : Pred) (rd rs1 rs2 : Reg) : Statement (.pmulshr15A p rd rs1 rs2) :=
  fP_fmt4a _ _ _ _ _ _ _ _
theorem pmulshr16A (p : Pred) (rd rs1 rs2 : Reg) : Statement (.pmulshr16A p rd rs1 rs2) :=
  fP_fmt4a _ _ _ _ _ _ _ _
theorem pshift2L (p : Pred) (rd rs1 rs2 : Reg) : Statement (.pshift2L p rd rs1 rs2) :=
  fP_fmt4a _ _ _ _ _ _ _ _
theorem pshift4L (p : Pred) (rd rs1 rs2 : Reg) : Statement (.pshift4L p rd rs1 rs2) :=
  fP_fmt4a _ _ _ _ _ _ _ _
theorem pshift8L (p : Pred) (rd rs1 rs2 : Reg) : Statement (.pshift8L p rd rs1 rs2) :=
  fP_fmt4a _ _ _ _ _ _ _ _
theorem pshift2R (p : Pred) (rd rs1 rs2 : Reg) : Statement (.pshift2R p rd rs1 rs2) :=
  fP_fmt4a _ _ _ _ _ _ _ _
theorem pshift4R (p : Pred) (rd rs1 rs2 : Reg) : Statement (.pshift4R p rd rs1 rs2) :=
  fP_fmt4a _ _ _ _ _ _ _ _
theorem pshift8R (p : Pred) (rd rs1 rs2 : Reg) : Statement (.pshift8R p rd rs1 rs2) :=
  fP_fmt4a _ _ _ _ _ _ _ _
theorem pshift2Ra (p : Pred) (rd rs1 rs2 : Reg) : Statement (.pshift2Ra p rd rs1 rs2) :=
  fP_fmt4a _ _ _ _ _ _ _ _
theorem pshift4Ra (p : Pred) (rd rs1 rs2 : Reg) : Statement (.pshift4Ra p rd rs1 rs2) :=
  fP_fmt4a _ _ _ _ _ _ _ _
theorem pshift8Ra (p : Pred) (rd rs1 rs2 : Reg) : Statement (.pshift8Ra p rd rs1 rs2) :=
  fP_fmt4a _ _ _ _ _ _ _ _
theorem pshifti2L (p : Pred) (rd rs1 : Reg) (imm5 : BitVec 5) : Statement (.pshifti2L p rd rs1 imm5) :=
  fP_fmt4b _ _ _ _ _ _ _ _
theorem pshifti4L (p : Pred) (rd rs1 : Reg) (imm5 : BitVec 5) : Statement (.pshifti4L p rd rs1 imm5) :=
  fP_fmt4b _ _ _ _ _ _ _ _
theorem pshifti8L (p : Pred) (rd rs1 : Reg) (imm5 : BitVec 5) : Statement (.pshifti8L p rd rs1 imm5) :=
  fP_fmt4b _ _ _ _ _ _ _ _
theorem pshifti2R (p : Pred) (rd rs1 : Reg) (imm5 : BitVec 5) : Statement (.pshifti2R p rd rs1 imm5) :=
  fP_fmt4b _ _ _ _ _ _ _ _
theorem pshifti4R (p : Pred) (rd rs1 : Reg) (imm5 : BitVec 5) : Statement (.pshifti4R p rd rs1 imm5) :=
  fP_fmt4b _ _ _ _ _ _ _ _
theorem pshifti8R (p : Pred) (rd rs1 : Reg) (imm5 : BitVec 5) : Statement (.pshifti8R p rd rs1 imm5) :=
  fP_fmt4b _ _ _ _ _ _ _ _
theorem pshifti2Ra (p : Pred) (rd rs1 : Reg) (imm5 : BitVec 5) : Statement (.pshifti2Ra p rd rs1 imm5) :=
  fP_fmt4b _ _ _ _ _ _ _ _
theorem pshifti4Ra (p : Pred) (rd rs1 : Reg) (imm5 : BitVec 5) : Statement (.pshifti4Ra p rd rs1 imm5) :=
  fP_fmt4b _ _ _ _ _ _ _ _
theorem pshifti8Ra (p : Pred) (rd rs1 : Reg) (imm5 : BitVec 5) : Statement (.pshifti8Ra p rd rs1 imm5) :=
  fP_fmt4b _ _ _ _ _ _ _ _

end Sys2Proof.Laws.GuardField
end

