-- ==== Sys2Proof/Tests/Slice0.lean ====
section
/-! SUPPORT. Tests: the form checks, the decoding of every instruction, single steps from the tables of
95_test_vectors.md, and a witness for the hypotheses of every statement. -/

namespace Sys2Proof.Tests
open Sys2Proof Sys2Proof.Machine

/-! ### Helpers -/

/-- The state after reset at one register size, with registers given and the pc at 0x1000. -/
def start (x : Xlen) (regs : List (Reg × Nat)) : State :=
  (regs.foldl (fun s r => s.setReg r.1 (BitVec.ofNat s.xlen r.2)) (State.resetWith (Config.referenceAt x))).setPc 0x1000#64

/-- A check of the next state. -/
def nextIs (o : Result) (check : State → Bool) : Bool :=
  match o with
  | .next t => check t
  | _ => false

/-- The outcome is this fault. -/
def faultIs (o : Result) (f : Fault) : Bool :=
  match o with
  | .fault g => decide (g = f)
  | _ => false

/-- One step of a state at the word. -/
def stepAt (w : Nat) (s : State) : Result := step (s.withFetchWord 32 w)

/-- The step of the word writes this value to R1 and advances the pc. -/
def writes (x : Xlen) (w : Nat) (regs : List (Reg × Nat)) (v : Nat) : Bool :=
  nextIs (stepAt w (start x regs)) fun t =>
    decide ((t.reg t.xlen 1).toNat = v) && decide (t.pc = 0x1004#64)

/-- The step of the word leaves these two predicates reading so. -/
def setsPreds (x : Xlen) (w : Nat) (regs : List (Reg × Nat)) (pa pb : Pred) (a b : Bool) : Bool :=
  nextIs (stepAt w (start x regs)) fun t => (t.pred pa == a) && (t.pred pb == b) && decide (t.pc = 0x1004#64)

/-- The decoder reads the instruction from the word. -/
def decodesTo (x : Xlen) (w : IWord) (i : Instr) : Bool :=
  match decode x w with
  | .ok j => decide (j = i)
  | .error _ => false

/-- The decoder refuses the word by this name. -/
def reservedAs (x : Xlen) (w : IWord) (e : DecodeError) : Bool :=
  match decode x w with
  | .ok _ => false
  | .error f => decide (f = e)

/-! ### Well-formedness (30_encoding.md R105): a term for each size check, which the check refuses at XLEN = 32 -/

/-- Every form whose subwords do not fit 32 bits is ill-formed there, is refused by name, and is well-formed at 64. -/
theorem test_wf_refuses_absent_sizes :
    ([
      .mix4L 0 0 0 0, .mix4R 0 0 0 0, .load8 0 0 0 0, .load8Update 0 0 0 0, .store8 0 0 0 0, .store8Update 0 0 0 0,
      .padd8 0 0 0 0, .padd8U 0 0 0 0, .padd8S 0 0 0 0, .paddincr8 0 0 0 0, .psub8 0 0 0 0, .psub8U 0 0 0 0,
      .psub8S 0 0 0 0, .psubdecr8 0 0 0 0, .pcmp8Eq 0 0 0 0, .pcmp8Gt 0 0 0 0, .pshift8L 0 0 0 0, .pshift8R 0 0 0 0,
      .pshift8Ra 0 0 0 0, .pshifti8L 0 0 0 0, .pshifti8R 0 0 0 0, .pshifti8Ra 0 0 0 0] : List Instr).all (fun i => !i.wf .x32 && i.wf .x64
        && (match exec i (start .x32 []) with | .refused r => decide (r = .absentForm) | _ => false)) = true := by decide

theorem test_wf_accepts : (Instr.padd4 0 1 2 3).wf .x32 = true := by decide

/-! ### Decoding: a word for every instruction, assembled field by field from the spec's encoding of it with the guard P5,
Rd = 9, Rs1 = 18, Rs2 = 27, Pa = 3, Pb = 6 and immediates with no repeated pattern (30_encoding.md R84 to R97) -/

theorem test_decode_flow :
    ([
      (0x06DA5A5A, .jmp 5 0x5A5A5A), (0x0ADA5A5A, .jmpLink 5 0x5A5A5A), (0x0E800000, .trap 5),
      (0x12A40000, .jmpReg 5 9), (0x16A40000, .jmpRegLink 5 9)] : List (IWord × Instr)).all
      (fun c => decodesTo .x64 c.1 c.2 && decide (encode c.2 = c.1)) = true := by decide

theorem test_decode_changepr :
    ([
      (0x2E80000B, .changepr 5 0xB), (0x3283140B, .changeprLd 5 0xB 0xC5)] : List (IWord × Instr)).all
      (fun c => decodesTo .x64 c.1 c.2 && decide (encode c.2 = c.1)) = true := by decide

theorem test_decode_cmp :
    ([
      (0x22CB61E0, .cmpEq 5 18 27 3 6), (0x22CB61E1, .cmpNe 5 18 27 3 6), (0x22CB61E2, .cmpLt 5 18 27 3 6),
      (0x22CB61E3, .cmpLe 5 18 27 3 6), (0x22CB61E4, .cmpGt 5 18 27 3 6), (0x22CB61E5, .cmpGe 5 18 27 3 6),
      (0x22CB61E6, .cmpLtu 5 18 27 3 6), (0x22CB61E7, .cmpLeu 5 18 27 3 6), (0x22CB61E8, .cmpGtu 5 18 27 3 6),
      (0x22CB61E9, .cmpGeu 5 18 27 3 6)] : List (IWord × Instr)).all
      (fun c => decodesTo .x64 c.1 c.2 && decide (encode c.2 = c.1)) = true := by decide

theorem test_decode_cmpi :
    ([
      (0x26CB15E0, .cmpiEq 5 18 0xC5 3 6), (0x26CB15E1, .cmpiNe 5 18 0xC5 3 6), (0x26CB15E2, .cmpiLt 5 18 0xC5 3 6),
      (0x26CB15E3, .cmpiLe 5 18 0xC5 3 6), (0x26CB15E4, .cmpiGt 5 18 0xC5 3 6), (0x26CB15E5, .cmpiGe 5 18 0xC5 3 6),
      (0x26CB15E6, .cmpiLtu 5 18 0xC5 3 6), (0x26CB15E7, .cmpiLeu 5 18 0xC5 3 6),
      (0x26CB15E8, .cmpiGtu 5 18 0xC5 3 6), (0x26CB15E9, .cmpiGeu 5 18 0xC5 3 6)] : List (IWord × Instr)).all
      (fun c => decodesTo .x64 c.1 c.2 && decide (encode c.2 = c.1)) = true := by decide

theorem test_decode_testbit :
    ([
      (0x2AA715E0, .testbit 5 9 0xC5 3 6)] : List (IWord × Instr)).all
      (fun c => decodesTo .x64 c.1 c.2 && decide (encode c.2 = c.1)) = true := by decide

theorem test_decode_loadi :
    ([
      (0x1AA4ABCD, .loadiHi 5 9 0xABCD), (0x1EA4ABCD, .loadiLo 5 9 0xABCD)] : List (IWord × Instr)).all
      (fun c => decodesTo .x64 c.1 c.2 && decide (encode c.2 = c.1)) = true := by decide

theorem test_decode_load :
    ([
      (0x42A65234, .load1 5 9 18 0x1234), (0x46A65234, .load2 5 9 18 0x1234), (0x4AA65234, .load4 5 9 18 0x1234),
      (0x4EA65234, .load8 5 9 18 0x1234), (0x52A65234, .load1Update 5 9 18 0x1234),
      (0x56A65234, .load2Update 5 9 18 0x1234), (0x5AA65234, .load4Update 5 9 18 0x1234),
      (0x5EA65234, .load8Update 5 9 18 0x1234)] : List (IWord × Instr)).all
      (fun c => decodesTo .x64 c.1 c.2 && decide (encode c.2 = c.1)) = true := by decide

theorem test_decode_store :
    ([
      (0x62A65234, .store1 5 9 18 0x1234), (0x66A65234, .store2 5 9 18 0x1234), (0x6AA65234, .store4 5 9 18 0x1234),
      (0x6EA65234, .store8 5 9 18 0x1234), (0x72A65234, .store1Update 5 9 18 0x1234),
      (0x76A65234, .store2Update 5 9 18 0x1234), (0x7AA65234, .store4Update 5 9 18 0x1234),
      (0x7EA65234, .store8Update 5 9 18 0x1234)] : List (IWord × Instr)).all
      (fun c => decodesTo .x64 c.1 c.2 && decide (encode c.2 = c.1)) = true := by decide

theorem test_decode_alu_immediate :
    ([
      (0x82A65234, .addi 5 9 18 0x1234), (0x86A65234, .subi 5 9 18 0x1234), (0x8AA65234, .andi 5 9 18 0x1234),
      (0x8EA65234, .ori 5 9 18 0x1234), (0x92A65234, .xori 5 9 18 0x1234)] : List (IWord × Instr)).all
      (fun c => decodesTo .x64 c.1 c.2 && decide (encode c.2 = c.1)) = true := by decide

theorem test_decode_shift_bitfield :
    ([
      (0x96A65234, .slli 5 9 18 0x1234), (0x9AA65234, .srli 5 9 18 0x1234), (0x9EA65234, .srai 5 9 18 0x1234),
      (0xA2A65BC5, .shrp 5 9 18 27 0xC5), (0xA6A654ED, .extract 5 9 18 0x53 0x2D),
      (0xAAA654ED, .deposit 5 9 18 0x53 0x2D)] : List (IWord × Instr)).all
      (fun c => decodesTo .x64 c.1 c.2 && decide (encode c.2 = c.1)) = true := by decide

theorem test_decode_add :
    ([
      (0xAEA65B00, .padd1 5 9 18 27), (0xAEA65B40, .padd2 5 9 18 27), (0xAEA65B80, .padd4 5 9 18 27),
      (0xAEA65BC0, .padd8 5 9 18 27), (0xAEA65B08, .padd1U 5 9 18 27), (0xAEA65B48, .padd2U 5 9 18 27),
      (0xAEA65B88, .padd4U 5 9 18 27), (0xAEA65BC8, .padd8U 5 9 18 27), (0xAEA65B10, .padd1S 5 9 18 27),
      (0xAEA65B50, .padd2S 5 9 18 27), (0xAEA65B90, .padd4S 5 9 18 27), (0xAEA65BD0, .padd8S 5 9 18 27),
      (0xB2A65B00, .paddincr1 5 9 18 27), (0xB2A65B40, .paddincr2 5 9 18 27), (0xB2A65B80, .paddincr4 5 9 18 27),
      (0xB2A65BC0, .paddincr8 5 9 18 27)] : List (IWord × Instr)).all
      (fun c => decodesTo .x64 c.1 c.2 && decide (encode c.2 = c.1)) = true := by decide

theorem test_decode_subtract :
    ([
      (0xB6A65B00, .psub1 5 9 18 27), (0xB6A65B40, .psub2 5 9 18 27), (0xB6A65B80, .psub4 5 9 18 27),
      (0xB6A65BC0, .psub8 5 9 18 27), (0xB6A65B08, .psub1U 5 9 18 27), (0xB6A65B48, .psub2U 5 9 18 27),
      (0xB6A65B88, .psub4U 5 9 18 27), (0xB6A65BC8, .psub8U 5 9 18 27), (0xB6A65B10, .psub1S 5 9 18 27),
      (0xB6A65B50, .psub2S 5 9 18 27), (0xB6A65B90, .psub4S 5 9 18 27), (0xB6A65BD0, .psub8S 5 9 18 27),
      (0xBAA65B00, .psubdecr1 5 9 18 27), (0xBAA65B40, .psubdecr2 5 9 18 27), (0xBAA65B80, .psubdecr4 5 9 18 27),
      (0xBAA65BC0, .psubdecr8 5 9 18 27)] : List (IWord × Instr)).all
      (fun c => decodesTo .x64 c.1 c.2 && decide (encode c.2 = c.1)) = true := by decide

theorem test_decode_average :
    ([
      (0xBEA65B00, .pavg1 5 9 18 27), (0xBEA65B40, .pavg2 5 9 18 27), (0xBEA65B08, .pavg1Raz 5 9 18 27),
      (0xBEA65B48, .pavg2Raz 5 9 18 27), (0xC2A65B00, .psubavg1 5 9 18 27), (0xC2A65B40, .psubavg2 5 9 18 27)] : List (IWord × Instr)).all
      (fun c => decodesTo .x64 c.1 c.2 && decide (encode c.2 = c.1)) = true := by decide

theorem test_decode_logical :
    ([
      (0xC6A65B00, .andReg 5 9 18 27), (0xCAA65B00, .andcm 5 9 18 27), (0xCEA65B00, .orReg 5 9 18 27),
      (0xD2A65B00, .xorReg 5 9 18 27), (0xD6A64000, .notReg 5 9 18)] : List (IWord × Instr)).all
      (fun c => decodesTo .x64 c.1 c.2 && decide (encode c.2 = c.1)) = true := by decide

theorem test_decode_compare_max_min :
    ([
      (0xDAA65B00, .pcmp1Eq 5 9 18 27), (0xDAA65B40, .pcmp2Eq 5 9 18 27), (0xDAA65B80, .pcmp4Eq 5 9 18 27),
      (0xDAA65BC0, .pcmp8Eq 5 9 18 27), (0xDAA65B08, .pcmp1Gt 5 9 18 27), (0xDAA65B48, .pcmp2Gt 5 9 18 27),
      (0xDAA65B88, .pcmp4Gt 5 9 18 27), (0xDAA65BC8, .pcmp8Gt 5 9 18 27), (0xDEA65B00, .pmax1 5 9 18 27),
      (0xDEA65B40, .pmax2 5 9 18 27), (0xE2A65B00, .pmin1 5 9 18 27), (0xE2A65B40, .pmin2 5 9 18 27)] : List (IWord × Instr)).all
      (fun c => decodesTo .x64 c.1 c.2 && decide (encode c.2 = c.1)) = true := by decide

theorem test_decode_shift_add :
    ([
      (0xE6A65B41, .pshiftadd1L 5 9 18 27), (0xE6A65B42, .pshiftadd2L 5 9 18 27),
      (0xE6A65B43, .pshiftadd3L 5 9 18 27), (0xE6A65B49, .pshiftadd1R 5 9 18 27),
      (0xE6A65B4A, .pshiftadd2R 5 9 18 27), (0xE6A65B4B, .pshiftadd3R 5 9 18 27)] : List (IWord × Instr)).all
      (fun c => decodesTo .x64 c.1 c.2 && decide (encode c.2 = c.1)) = true := by decide

theorem test_decode_multiply :
    ([
      (0xEAA65B40, .pmulOdd 5 9 18 27), (0xEAA65B48, .pmulEven 5 9 18 27), (0xEEA65B40, .pmulshr0 5 9 18 27),
      (0xEEA65B41, .pmulshr8 5 9 18 27), (0xEEA65B42, .pmulshr15 5 9 18 27), (0xEEA65B43, .pmulshr16 5 9 18 27),
      (0xEEA65B48, .pmulshr0A 5 9 18 27), (0xEEA65B49, .pmulshr8A 5 9 18 27), (0xEEA65B4A, .pmulshr15A 5 9 18 27),
      (0xEEA65B4B, .pmulshr16A 5 9 18 27)] : List (IWord × Instr)).all
      (fun c => decodesTo .x64 c.1 c.2 && decide (encode c.2 = c.1)) = true := by decide

theorem test_decode_packed_shift :
    ([
      (0xF2A65B40, .pshift2L 5 9 18 27), (0xF2A65B80, .pshift4L 5 9 18 27), (0xF2A65BC0, .pshift8L 5 9 18 27),
      (0xF2A65B48, .pshift2R 5 9 18 27), (0xF2A65B88, .pshift4R 5 9 18 27), (0xF2A65BC8, .pshift8R 5 9 18 27),
      (0xF2A65B50, .pshift2Ra 5 9 18 27), (0xF2A65B90, .pshift4Ra 5 9 18 27), (0xF2A65BD0, .pshift8Ra 5 9 18 27)] : List (IWord × Instr)).all
      (fun c => decodesTo .x64 c.1 c.2 && decide (encode c.2 = c.1)) = true := by decide

theorem test_decode_packed_shift_immediate :
    ([
      (0xF6A65640, .pshifti2L 5 9 18 0x16), (0xF6A65680, .pshifti4L 5 9 18 0x16),
      (0xF6A656C0, .pshifti8L 5 9 18 0x16), (0xF6A65648, .pshifti2R 5 9 18 0x16),
      (0xF6A65688, .pshifti4R 5 9 18 0x16), (0xF6A656C8, .pshifti8R 5 9 18 0x16),
      (0xF6A65650, .pshifti2Ra 5 9 18 0x16), (0xF6A65690, .pshifti4Ra 5 9 18 0x16),
      (0xF6A656D0, .pshifti8Ra 5 9 18 0x16)] : List (IWord × Instr)).all
      (fun c => decodesTo .x64 c.1 c.2 && decide (encode c.2 = c.1)) = true := by decide

theorem test_decode_mix :
    ([
      (0x36A65B00, .mix1L 5 9 18 27), (0x36A65B40, .mix2L 5 9 18 27), (0x36A65B80, .mix4L 5 9 18 27),
      (0x36A65B08, .mix1R 5 9 18 27), (0x36A65B48, .mix2R 5 9 18 27), (0x36A65B88, .mix4R 5 9 18 27)] : List (IWord × Instr)).all
      (fun c => decodesTo .x64 c.1 c.2 && decide (encode c.2 = c.1)) = true := by decide

theorem test_decode_mux_perm :
    ([
      (0x3AA64000, .muxRev 5 9 18), (0x3AA64008, .muxMix 5 9 18), (0x3AA64010, .muxShuf 5 9 18),
      (0x3AA64018, .muxAlt 5 9 18), (0x3AA64020, .muxBrcst 5 9 18), (0x3EA65B40, .perm 5 9 18 27)] : List (IWord × Instr)).all
      (fun c => decodesTo .x64 c.1 c.2 && decide (encode c.2 = c.1)) = true := by decide

/-- Words that differ only in ignored fields decode alike (95_test_vectors.md section 2.10). -/
theorem test_decode_ignored :
    ([(0x0C7FFFFF, .trap 0), (0x2C03FC03, .changepr 0 3), (0x1C07ABCD, .loadiLo 0 1 0xABCD),
      (0x281C00AF, .testbit 0 7 0 1 2), (0xD4045F00, .notReg 0 1 2)] : List (IWord × Instr)).all
      (fun c => decodesTo .x64 c.1 c.2) = true := by decide

/-- The reserved words of 95_test_vectors.md section 2.10, by the name of the check that refuses each. -/
theorem test_decode_reserved :
    ([
      (0x00000000, .reservedOpcode), (0xF8000000, .reservedOpcode), (0xFFFFFFFF, .reservedOpcode),
      (0x03800000, .reservedOpcode), (0x38044100, .mustBeZero), (0x38044028, .reservedForm),
      (0x38044040, .reservedForm), (0xAC044318, .reservedForm), (0xAC044301, .reservedForm),
      (0x200440AA, .reservedRelation), (0x2407FE5F, .reservedRelation), (0x200444A0, .mustBeZero),
      (0xDC044380, .reservedForm), (0xE4044340, .reservedForm), (0xE4044344, .reservedForm),
      (0xEC044344, .reservedForm), (0xE8044300, .reservedForm), (0xF0044300, .reservedForm),
      (0x3C044300, .reservedForm), (0x340443C0, .reservedForm), (0xC4044340, .reservedForm),
      (0x10140001, .mustBeZero), (0x2C040003, .mustBeZero)] : List (IWord × DecodeError)).all
      (fun c => reservedAs .x64 c.1 c.2) = true := by decide

theorem test_decode_absent_at_32 :
    ([0xAC0443C0, 0x4C082008, 0x34044380] : List IWord).all (fun w => reservedAs .x32 w .absentSize) = true := by decide

/-- The table's bit numbering: bit 0 of the number is bit 0 of the word. -/
theorem test_decodeTableWord : decodeTableWord 32 0x80045FFF = some (.addi 0 1 2 0x1FFF) := by decide

/-- A reserved word is illegal whatever its guard (60_exceptions.md R302). -/
theorem test_illegal_whatever_guard :
    faultIs (stepAt 0x03800000 (start .x64 [])) (.illegalInstruction 0x03800000) = true := by decide

/-- 20_memory.md R54: after MemWrite(a, 4, 0x11223344), MemRead(a, 1) is 0x11 under big and 0x44 under little order. -/
theorem test_byte_order :
    ([(ByteOrder.big, some 0x11#8), (.little, some 0x44#8)] : List (ByteOrder × Option Byte)).all (fun c =>
      let s := start .x64 [(4, 0x11223344)]
      nextIs (exec (.store4 0 4 0 0x40) { s with cfg := { s.cfg with byteOrder := c.1 } })
        fun t => decide (t.readByte 0x40 = c.2)) = true := by decide

/-! ### Single steps: rows of 95_test_vectors.md sections 2.2 to 2.9, at most one for each instruction at each XLEN -/

theorem test_step_cmp :
    (setsPreds .x64 0x200440A0 [(1, 0xFFFFFFFFFFFFFFFF), (2, 0x1)] 1 2 false true
      && setsPreds .x64 0x200440A1 [(1, 0xFFFFFFFFFFFFFFFF), (2, 0x1)] 1 2 true false
      && setsPreds .x64 0x200440A2 [(1, 0xFFFFFFFFFFFFFFFF), (2, 0x1)] 1 2 true false
      && setsPreds .x64 0x200440A3 [(1, 0xFFFFFFFFFFFFFFFF), (2, 0x1)] 1 2 true false
      && setsPreds .x64 0x200440A4 [(1, 0xFFFFFFFFFFFFFFFF), (2, 0x1)] 1 2 false true
      && setsPreds .x64 0x200440A5 [(1, 0xFFFFFFFFFFFFFFFF), (2, 0x1)] 1 2 false true
      && setsPreds .x64 0x200440A6 [(1, 0xFFFFFFFFFFFFFFFF), (2, 0x1)] 1 2 false true
      && setsPreds .x64 0x200440A7 [(1, 0xFFFFFFFFFFFFFFFF), (2, 0x1)] 1 2 false true
      && setsPreds .x64 0x200440A8 [(1, 0xFFFFFFFFFFFFFFFF), (2, 0x1)] 1 2 true false
      && setsPreds .x64 0x200440A9 [(1, 0xFFFFFFFFFFFFFFFF), (2, 0x1)] 1 2 true false
      && setsPreds .x32 0x200440A2 [(1, 0x80000000), (2, 0x1)] 1 2 true false) = true := by decide

theorem test_step_cmpi :
    (setsPreds .x64 0x240428A0 [(1, 0xA)] 1 2 true false
      && setsPreds .x64 0x240600A2 [(1, 0xFFFFFFFFFFFFFF7F)] 1 2 true false
      && setsPreds .x64 0x2405FCA5 [(1, 0x7F)] 1 2 true false
      && setsPreds .x64 0x2407FE56 [(1, 0xA)] 4 5 true false
      && setsPreds .x64 0x24041658 [(1, 0xFFFFFFFFFFFFFFFF)] 4 5 true false
      && setsPreds .x64 0x24041654 [(1, 0xFFFFFFFFFFFFFFFF)] 4 5 false true
      && setsPreds .x64 0x24000371 [] 6 7 false true) = true := by decide

theorem test_step_testbit :
    (setsPreds .x64 0x281CFCA0 [(7, 0x8000000000000001)] 1 2 true false
      && setsPreds .x32 0x281C7CA0 [(7, 0x80000000)] 1 2 true false) = true := by decide

theorem test_step_loadi :
    (writes .x64 0x18041234 [(1, 0xFFFFFFFF)] 0x1234FFFF
      && writes .x64 0x1C04ABCD [(1, 0x1234FFFF)] 0x1234ABCD
      && writes .x32 0x18041234 [(1, 0xFFFFFFFF)] 0x1234FFFF) = true := by decide

theorem test_step_alu_immediate :
    (writes .x64 0x80045FFF [(2, 0x5)] 0x4
      && writes .x32 0x80044001 [(2, 0xFFFFFFFF)] 0x0
      && writes .x64 0x84044001 [(2, 0x0)] 0xFFFFFFFFFFFFFFFF
      && writes .x64 0x88045FFF [(2, 0xFFFFFFFFFFFFFFFF)] 0x1FFF
      && writes .x64 0x8C045000 [(2, 0xF)] 0x100F
      && writes .x64 0x90045FFF [(2, 0xFFFFFFFFFFFFFFFF)] 0xFFFFFFFFFFFFE000) = true := by decide

theorem test_step_shift_bitfield :
    (writes .x64 0x94044004 [(2, 0x123456789ABCDEF)] 0x123456789ABCDEF0
      && writes .x64 0x98044004 [(2, 0x123456789ABCDEF)] 0x123456789ABCDE
      && writes .x64 0x9C044004 [(2, 0x123456789ABCDEF)] 0x123456789ABCDE
      && writes .x32 0x94044004 [(2, 0x89ABCDEF)] 0x9ABCDEF0
      && writes .x32 0x9C04401F [(2, 0x89ABCDEF)] 0xFFFFFFFF
      && writes .x64 0xA0044300 [(2, 0x123456789ABCDEF), (3, 0xFEDCBA9876543210)] 0xFEDCBA9876543210
      && writes .x64 0xA4044210 [(2, 0x123456789ABCDEF)] 0xABCD
      && writes .x64 0xA8044210 [(1, 0xFFFFFFFFFFFFFFFF), (2, 0x123456789ABCDEF)] 0xFFFFFFFFFFCDEFFF) = true := by decide

theorem test_step_add :
    (writes .x64 0xAC044340 [(2, 0x7FFF80000001FFFF), (3, 0x18000FFFF0001)] 0x8000000000000000
      && writes .x64 0xAC044348 [(2, 0x7FFF80000001FFFF), (3, 0x18000FFFF0001)] 0x8000FFFFFFFFFFFF
      && writes .x64 0xAC044350 [(2, 0x7FFF80000001FFFF), (3, 0x18000FFFF0001)] 0x7FFF800000000000
      && writes .x64 0xB0044340 [(2, 0x7FFF80000001FFFF), (3, 0x18000FFFF0001)] 0x8001000100010001
      && writes .x64 0xAC044300 [(2, 0x7F80FF0001FE8001), (3, 0x180FF01FF037F02)] 0x8000FE010001FF03
      && writes .x64 0xAC044308 [(2, 0x7F80FF0001FE8001), (3, 0x180FF01FF037F02)] 0x80FFFF01FFFFFF03
      && writes .x64 0xAC044310 [(2, 0x7F80FF0001FE8001), (3, 0x180FF01FF037F02)] 0x7F80FE010001FF03
      && writes .x64 0xB0044300 [(2, 0x7F80FF0001FE8001), (3, 0x180FF01FF037F02)] 0x8101FF0201020004
      && writes .x64 0xAC0443C0 [(2, 0x7FFFFFFFFFFFFFFF), (3, 0x1)] 0x8000000000000000
      && writes .x64 0xAC0443C8 [(2, 0x7FFFFFFFFFFFFFFF), (3, 0x1)] 0x8000000000000000
      && writes .x64 0xAC0443D0 [(2, 0x7FFFFFFFFFFFFFFF), (3, 0x1)] 0x7FFFFFFFFFFFFFFF
      && writes .x64 0xAC044380 [(2, 0x7FFFFFFFFFFFFFFF), (3, 0x1)] 0x7FFFFFFF00000000
      && writes .x64 0xAC044388 [(2, 0x7FFFFFFFFFFFFFFF), (3, 0x1)] 0x7FFFFFFFFFFFFFFF
      && writes .x64 0xAC044390 [(2, 0x7FFFFFFFFFFFFFFF), (3, 0x1)] 0x7FFFFFFF00000000
      && writes .x64 0xB00443C0 [(2, 0x7FFFFFFFFFFFFFFF), (3, 0x1)] 0x8000000000000001
      && writes .x32 0xAC044350 [(2, 0x7FFF8000), (3, 0x18000)] 0x7FFF8000
      && writes .x32 0xAC044380 [(2, 0xFFFFFFFF), (3, 0x1)] 0x0) = true := by decide

theorem test_step_subtract :
    (writes .x64 0xB4044340 [(2, 0x7FFF80000001FFFF), (3, 0x18000FFFF0001)] 0x7FFE00000002FFFE
      && writes .x64 0xB4044348 [(2, 0x7FFF80000001FFFF), (3, 0x18000FFFF0001)] 0x7FFE00000000FFFE
      && writes .x64 0xB4044350 [(2, 0x7FFF80000001FFFF), (3, 0x18000FFFF0001)] 0x7FFE00000002FFFE
      && writes .x64 0xB8044340 [(2, 0x7FFF80000001FFFF), (3, 0x18000FFFF0001)] 0x7FFDFFFF0001FFFD
      && writes .x64 0xB4044300 [(2, 0x7F80FF0001FE8001), (3, 0x180FF01FF037F02)] 0x7E0000FF02FB01FF
      && writes .x64 0xB4044308 [(2, 0x7F80FF0001FE8001), (3, 0x180FF01FF037F02)] 0x7E00000000FB0100
      && writes .x64 0xB4044310 [(2, 0x7F80FF0001FE8001), (3, 0x180FF01FF037F02)] 0x7E0000FF02FB80FF
      && writes .x64 0xB8044300 [(2, 0x7F80FF0001FE8001), (3, 0x180FF01FF037F02)] 0x7DFFFFFE01FA00FE
      && writes .x64 0xB40443C0 [(2, 0x7FFFFFFFFFFFFFFF), (3, 0x1)] 0x7FFFFFFFFFFFFFFE
      && writes .x64 0xB4044380 [(2, 0x7FFFFFFFFFFFFFFF), (3, 0x1)] 0x7FFFFFFFFFFFFFFE
      && writes .x64 0xB80443C0 [(2, 0x7FFFFFFFFFFFFFFF), (3, 0x1)] 0x7FFFFFFFFFFFFFFD
      && writes .x64 0xB40443C8 [(2, 0x8000000000000000), (3, 0x1)] 0x7FFFFFFFFFFFFFFF
      && writes .x64 0xB40443D0 [(2, 0x8000000000000000), (3, 0x1)] 0x8000000000000000
      && writes .x64 0xB4044390 [(2, 0x8000000000000000), (3, 0x1)] 0x80000000FFFFFFFF
      && writes .x64 0xB4044388 [(2, 0x8000000000000000), (3, 0x1)] 0x8000000000000000) = true := by decide

theorem test_step_average :
    (writes .x64 0xBC044300 [(2, 0x7F80FF0001FE8001), (3, 0x180FF01FF037F02)] 0x4080FF0180817F01
      && writes .x64 0xBC044308 [(2, 0x7F80FF0001FE8001), (3, 0x180FF01FF037F02)] 0x4080FF0180818002
      && writes .x64 0xC0044300 [(2, 0x7F80FF0001FE8001), (3, 0x180FF01FF037F02)] 0x3F0000FF817D01FF
      && writes .x64 0xBC044340 [(2, 0x50004FFFF0000), (3, 0x20007FFFF0001)] 0x30005FFFF0001
      && writes .x64 0xBC044348 [(2, 0x50004FFFF0000), (3, 0x20007FFFF0001)] 0x40006FFFF0001
      && writes .x64 0xC0044340 [(2, 0x50004FFFF0000), (3, 0x20007FFFF0001)] 0x1FFFF0000FFFF
      && writes .x32 0xBC044300 [(2, 0x1FE8001), (3, 0xFF037F02)] 0x80817F01) = true := by decide

theorem test_step_logical :
    (writes .x64 0xC4044300 [(2, 0xFF00FF00F0F0F0F0), (3, 0xFF00FF0FFFF0000)] 0xF000F00F0F00000
      && writes .x64 0xC8044300 [(2, 0xFF00FF00F0F0F0F0), (3, 0xFF00FF0FFFF0000)] 0xF000F0000000F0F0
      && writes .x64 0xCC044300 [(2, 0xFF00FF00F0F0F0F0), (3, 0xFF00FF0FFFF0000)] 0xFFF0FFF0FFFFF0F0
      && writes .x64 0xD0044300 [(2, 0xFF00FF00F0F0F0F0), (3, 0xFF00FF0FFFF0000)] 0xF0F0F0F00F0FF0F0
      && writes .x64 0xD4044000 [(2, 0xFF00FF00F0F0F0F0)] 0xFF00FF0F0F0F0F) = true := by decide

theorem test_step_compare_max_min :
    (writes .x64 0xD8044300 [(2, 0x7F80FF0001FE8001), (3, 0x180FF01FF037F02)] 0xFFFF0000000000
      && writes .x64 0xD8044308 [(2, 0x7F80FF0001FE8001), (3, 0x180FF01FF037F02)] 0xFF000000FF000000
      && writes .x64 0xDC044300 [(2, 0x7F80FF0001FE8001), (3, 0x180FF01FF037F02)] 0x7F80FF0101037F02
      && writes .x64 0xE0044300 [(2, 0x7F80FF0001FE8001), (3, 0x180FF01FF037F02)] 0x180FF00FFFE8001
      && writes .x64 0xD80443C8 [(2, 0x7FFFFFFFFFFFFFFF), (3, 0x1)] 0xFFFFFFFFFFFFFFFF
      && writes .x64 0xD80443C0 [(2, 0x7FFFFFFFFFFFFFFF), (3, 0x1)] 0x0
      && writes .x64 0xD8044388 [(2, 0x7FFFFFFFFFFFFFFF), (3, 0x1)] 0xFFFFFFFF00000000
      && writes .x64 0xD8044380 [(2, 0x7FFFFFFFFFFFFFFF), (3, 0x1)] 0x0
      && writes .x64 0xDC044340 [(2, 0x50004FFFF0000), (3, 0x20007FFFF0001)] 0x50007FFFF0001
      && writes .x64 0xE0044340 [(2, 0x50004FFFF0000), (3, 0x20007FFFF0001)] 0x20004FFFF0000
      && writes .x64 0xD8044348 [(2, 0x50004FFFF0000), (3, 0x20007FFFF0001)] 0xFFFF000000000000
      && writes .x64 0xD8044340 [(2, 0x50004FFFF0000), (3, 0x20007FFFF0001)] 0xFFFF0000) = true := by decide

theorem test_step_shift_add :
    (writes .x64 0xE4044341 [(2, 0x40007FFF8000FFFF), (3, 0x1000100010001)] 0x8001FFFF0001FFFF
      && writes .x64 0xE4044349 [(2, 0x40007FFF8000FFFF), (3, 0x1000100010001)] 0x20014000C0010000
      && writes .x64 0xE4044342 [(2, 0x40007FFF8000FFFF), (3, 0x1000100010001)] 0x1FFFD0001FFFD
      && writes .x64 0xE404434A [(2, 0x40007FFF8000FFFF), (3, 0x1000100010001)] 0x10012000E0010000
      && writes .x64 0xE4044343 [(2, 0x40007FFF8000FFFF), (3, 0x1000100010001)] 0x1FFF90001FFF9
      && writes .x64 0xE404434B [(2, 0x40007FFF8000FFFF), (3, 0x1000100010001)] 0x8011000F0010000) = true := by decide

theorem test_step_multiply :
    (writes .x64 0xE8044340 [(2, 0x3FFFE7FFF8000), (3, 0x4000300020002)] 0xC0000FFFE
      && writes .x64 0xE8044348 [(2, 0x3FFFE7FFF8000), (3, 0x4000300020002)] 0xFFFFFFFAFFFF0000
      && writes .x32 0xE8044340 [(2, 0x37FFF), (3, 0x4FFFE)] 0xC
      && writes .x32 0xE8044348 [(2, 0x37FFF), (3, 0x4FFFE)] 0xFFFF0002
      && writes .x64 0xEC044340 [(2, 0xFFFF800040000003), (3, 0xFFFF800040000005)] 0x100000000000F
      && writes .x64 0xEC044348 [(2, 0xFFFF800040000003), (3, 0xFFFF800040000005)] 0x100000000000F
      && writes .x64 0xEC044341 [(2, 0xFFFF800040000003), (3, 0xFFFF800040000005)] 0xFE00000000000000
      && writes .x64 0xEC044349 [(2, 0xFFFF800040000003), (3, 0xFFFF800040000005)] 0x0
      && writes .x64 0xEC044342 [(2, 0xFFFF800040000003), (3, 0xFFFF800040000005)] 0xFFFC800020000000
      && writes .x64 0xEC04434A [(2, 0xFFFF800040000003), (3, 0xFFFF800040000005)] 0x800020000000
      && writes .x64 0xEC044343 [(2, 0xFFFF800040000003), (3, 0xFFFF800040000005)] 0xFFFE400010000000
      && writes .x64 0xEC04434B [(2, 0xFFFF800040000003), (3, 0xFFFF800040000005)] 0x400010000000) = true := by decide

theorem test_step_packed_shift :
    (writes .x64 0xF0044340 [(2, 0x8001F00F12345678), (3, 0x4)] 0x1000F023406780
      && writes .x64 0xF0044348 [(2, 0x8001F00F12345678), (3, 0x4)] 0x8000F0001230567
      && writes .x64 0xF0044350 [(2, 0x8001F00F12345678), (3, 0x4)] 0xF800FF0001230567
      && writes .x64 0xF0044380 [(2, 0x8001F00F12345678), (3, 0x4)] 0x1F00F023456780
      && writes .x64 0xF0044388 [(2, 0x8001F00F12345678), (3, 0x4)] 0x8001F0001234567
      && writes .x64 0xF0044390 [(2, 0x8001F00F12345678), (3, 0x4)] 0xF8001F0001234567
      && writes .x64 0xF00443C0 [(2, 0x8001F00F12345678), (3, 0x4)] 0x1F00F123456780
      && writes .x64 0xF00443C8 [(2, 0x8001F00F12345678), (3, 0x4)] 0x8001F00F1234567
      && writes .x64 0xF00443D0 [(2, 0x8001F00F12345678), (3, 0x4)] 0xF8001F00F1234567
      && writes .x32 0xF0044390 [(2, 0x80000000), (3, 0x1F)] 0xFFFFFFFF
      && writes .x32 0xF0044348 [(2, 0x8001F00F), (3, 0x4)] 0x8000F00) = true := by decide

theorem test_step_packed_shift_immediate :
    (writes .x64 0xF4044440 [(2, 0x8001F00F12345678)] 0x1000F023406780
      && writes .x64 0xF4044448 [(2, 0x8001F00F12345678)] 0x8000F0001230567
      && writes .x64 0xF4044450 [(2, 0x8001F00F12345678)] 0xF800FF0001230567
      && writes .x64 0xF4044480 [(2, 0x8001F00F12345678)] 0x1F00F023456780
      && writes .x64 0xF4044488 [(2, 0x8001F00F12345678)] 0x8001F0001234567
      && writes .x64 0xF4044490 [(2, 0x8001F00F12345678)] 0xF8001F0001234567
      && writes .x64 0xF40444C0 [(2, 0x8001F00F12345678)] 0x1F00F123456780
      && writes .x64 0xF40444C8 [(2, 0x8001F00F12345678)] 0x8001F00F1234567
      && writes .x64 0xF40444D0 [(2, 0x8001F00F12345678)] 0xF8001F00F1234567) = true := by decide

theorem test_step_mix :
    (writes .x64 0x34044300 [(2, 0xA1A2A3A4A5A6A7A8), (3, 0xB1B2B3B4B5B6B7B8)] 0xA1B1A3B3A5B5A7B7
      && writes .x64 0x34044308 [(2, 0xA1A2A3A4A5A6A7A8), (3, 0xB1B2B3B4B5B6B7B8)] 0xA2B2A4B4A6B6A8B8
      && writes .x64 0x34044340 [(2, 0xA1A2A3A4A5A6A7A8), (3, 0xB1B2B3B4B5B6B7B8)] 0xA1A2B1B2A5A6B5B6
      && writes .x64 0x34044348 [(2, 0xA1A2A3A4A5A6A7A8), (3, 0xB1B2B3B4B5B6B7B8)] 0xA3A4B3B4A7A8B7B8
      && writes .x64 0x34044380 [(2, 0xA1A2A3A4A5A6A7A8), (3, 0xB1B2B3B4B5B6B7B8)] 0xA1A2A3A4B1B2B3B4
      && writes .x64 0x34044388 [(2, 0xA1A2A3A4A5A6A7A8), (3, 0xB1B2B3B4B5B6B7B8)] 0xA5A6A7A8B5B6B7B8
      && writes .x32 0x34044300 [(2, 0xA1A2A3A4), (3, 0xB1B2B3B4)] 0xA1B1A3B3
      && writes .x32 0x34044308 [(2, 0xA1A2A3A4), (3, 0xB1B2B3B4)] 0xA2B2A4B4) = true := by decide

theorem test_step_mux_perm :
    (writes .x64 0x38044000 [(2, 0x706050403020100)] 0x1020304050607
      && writes .x64 0x38044008 [(2, 0x706050403020100)] 0x703050106020400
      && writes .x64 0x38044010 [(2, 0x706050403020100)] 0x703060205010400
      && writes .x64 0x38044018 [(2, 0x706050403020100)] 0x705030106040200
      && writes .x64 0x38044020 [(2, 0x706050403020100)] 0x0
      && writes .x32 0x38044000 [(2, 0x3020100)] 0x10203
      && writes .x32 0x38044008 [(2, 0x3020100)] 0x3010200
      && writes .x64 0x3C044340 [(2, 0xAAAABBBBCCCCDDDD), (3, 0x1B)] 0xAAAABBBBCCCCDDDD) = true := by decide

/-! ### Flow control, memory and predicate sets: rows of 95_test_vectors.md sections 2.1 to 2.3 and 2.10 -/

/-- The reference machine with other parameters. -/
def withCfg (s : State) (f : Config → Config) : State := { s with cfg := f s.cfg }

/-- A jump row: the word at a pc, the pc and R31 afterwards. -/
def jumps (w : Nat) (regs : List (Reg × Nat)) (pc pc' r31 : Nat) : Bool :=
  nextIs (stepAt w ((start .x64 regs).setPc (BitVec.ofNat 64 pc))) fun t =>
    decide (t.pc.toNat = pc') && decide ((t.reg 64 31).toNat = r31) && !t.halted

theorem test_step_flow :
    (jumps 0x04000010 [] 0x1000 0x1010 0 && jumps 0x05FFFFF8 [] 0x1000 0x1004 0
      && jumps 0x047FFFF8 [] 0x4 0xFFFFFFFFFFFFFFFC 0 && jumps 0x08000100 [] 0x2000 0x2100 0x2004
      && jumps 0x08000004 [] 0xFFFFFFFFFFFFFFFC 0 0 && jumps 0x10140000 [(5, 0x40)] 0x3000 0x3040 0
      && jumps 0x107C0000 [(31, 0x2004)] 0x3000 0x5004 0x2004
      && jumps 0x14180000 [(6, 0x200)] 0x3000 0x3200 0x3004) = true := by decide

theorem test_step_link_through_r31 :
    faultIs (stepAt 0x147C0000 (start .x64 [(31, 0x200)])) (.unspecifiedBehaviour .linkThroughR31) = true := by decide

theorem test_step_trap :
    (nextIs (stepAt 0x0C7FFFFF (start .x64 [])) (fun t => t.halted && decide (t.pc = 0x1000#64))
      && nextIs (stepAt 0x0D000000 (start .x64 [])) (fun t => !t.halted && decide (t.pc = 0x1004#64))
      && nextIs (stepAt 0x0D000000 (withCfg (start .x64 []) fun c => { c with trapPredicated := false }))
          (fun t => t.halted && decide (t.pc = 0x1000#64))) = true := by decide

theorem test_step_changepr :
    (nextIs (stepAt 0x2C03FC03 (start .x64 [])) (fun t => decide (t.aps = 3))
      && nextIs (stepAt 0x30029402 (start .x64 [])) (fun t => decide (t.aps = 2)
        && decide ((List.range 8).map (fun k => t.pred (Fin.ofNat 8 k))
          = [true, false, true, false, false, true, false, true]))) = true := by decide

theorem test_step_cmp_same_predicate :
    faultIs (stepAt 0x20042090 (start .x64 [(1, 3)])) (.unspecifiedBehaviour .cmpSamePredicate) = true := by decide

/-- The memory M of 95_test_vectors.md section 2.3: two doublewords from 0x1000. -/
def memoryM : List Host.Cell :=
  Memory.writeBytes [] 0x1008 [0xDE, 0xAD, 0xBE, 0xEF, 0x01, 0x02, 0x03, 0x84]

/-- A load row with R1 as base and M in memory: R1 and R2 afterwards. The word is fetched at 0x2000. -/
def loads (o : ByteOrder) (e : LoadExtend) (w r1 r1' r2' : Nat) : Bool :=
  let s := withCfg { (start .x64 [(1, r1)]).setPc 0x2000#64 with mem := memoryM }
    fun c => { c with byteOrder := o, loadExtend := e }
  nextIs (stepAt w s) fun t => decide ((t.reg 64 1).toNat = r1') && decide ((t.reg 64 2).toNat = r2')

theorem test_step_load :
    (loads .big .zero 0x4008200F 0x1000 0x1000 0x84 && loads .little .sign 0x44082008 0x1000 0x1000 0xFFFFFFFFFFFFADDE
      && loads .big .sign 0x48082008 0x1000 0x1000 0xFFFFFFFFDEADBEEF
      && loads .little .zero 0x4C082008 0x1000 0x1000 0x84030201EFBEADDE
      && loads .big .zero 0x48083FF8 0x1010 0x1010 0xDEADBEEF) = true := by decide

theorem test_step_load_update :
    (loads .big .zero 0x5C083FF8 0x1010 0x1008 0xDEADBEEF01020384 && loads .big .zero 0x54082002 0x100A 0x100C 0x102
      && loads .big .zero 0x50002008 0x1000 0x1008 0) = true := by decide

/-- A store row: R1 and eight bytes of memory afterwards, those that nothing wrote having no value. -/
def stores (o : ByteOrder) (w : Nat) (regs : List (Reg × Nat)) (r1' a : Nat) (bytes : List (Option Byte)) : Bool :=
  let s := withCfg ((start .x64 regs).setPc 0x2000#64) fun c => { c with byteOrder := o }
  nextIs (stepAt w s) fun t => decide ((t.reg 64 1).toNat = r1')
    && decide ((List.range bytes.length).map (fun k => t.readByte (a + k)) = bytes)

theorem test_step_store :
    (stores .big 0x60102000 [(1, 0x1000), (4, 0x1122334455667788)] 0x1000 0x1000 [some 0x88, none]
      && stores .big 0x64102006 [(1, 0x1000), (4, 0x1122334455667788)] 0x1000 0x1005 [none, some 0x77, some 0x88]
      && stores .little 0x68102004 [(1, 0x1000), (4, 0x1122334455667788)] 0x1000 0x1003
          [none, some 0x88, some 0x77, some 0x66, some 0x55, none]
      && stores .big 0x6C102000 [(1, 0x1000), (4, 0x1122334455667788)] 0x1000 0x1000
          [some 0x11, some 0x22, some 0x33, some 0x44, some 0x55, some 0x66, some 0x77, some 0x88]) = true := by decide

theorem test_step_store_update :
    (stores .big 0x78043FFC [(1, 0x1008)] 0x1004 0x1004 [some 0x00, some 0x00, some 0x10, some 0x08]
      && stores .big 0x70100040 [(4, 0xAB)] 0 0x40 [some 0xAB, none]) = true := by decide

/-- The tables of section 2.3 for MEM_MAP = 0x0000 to 0xFFFF and TEXT = 0x0000 to 0x00FF, the words by their terms. -/
theorem test_access_faults :
    let s := fun r1 => withCfg (start .x64 [(1, r1)]) fun c =>
      { c with memMap := [{ base := 0, size := 0x10000 }], text := [{ base := 0, size := 0x100 }] }
    (faultIs (exec (.load8 0 2 1 4) (s 0xFFFC)) (.accessFault 0x10000)
      && faultIs (exec (.load4 0 2 1 4) (s 0xFFFD)) (.misalignedData 0x10001)
      && faultIs (exec (.load4Update 0 1 1 8) (s 0x1000)) (.unspecifiedBehaviour .loadUpdateSameRegister)
      && faultIs (exec (.store4 0 4 1 0) (s 0xFC)) (.unspecifiedBehaviour .storeToText)
      && nextIs (exec (.store4 0 4 1 0) (s 0x100)) (fun _ => true)
      && faultIs (step ((s 0).setPc 0x10000#64)) (.accessFault 0x10000)
      && faultIs (step ((s 0).setPc 0x1006#64)) (.misalignedFetch 0x1006)) = true := by decide

theorem test_step_range_faults :
    (faultIs (stepAt 0x94044040 (start .x64 [])) (.unspecifiedBehaviour .shiftByXlen)
      && faultIs (stepAt 0xA4044F05 (start .x64 [])) (.unspecifiedBehaviour .bitfieldRange)
      && faultIs (stepAt 0xA8044200 (start .x64 [])) (.unspecifiedBehaviour .bitfieldRange)
      && faultIs (stepAt 0xF0044340 (start .x64 [(3, 0x10)])) (.unspecifiedBehaviour .packedShiftRange)
      && faultIs (stepAt 0xF4045F48 (start .x64 [])) (.unspecifiedBehaviour .packedShiftRange)) = true := by decide

/-- By hand from 41_compare_predication.md R144, R145 and 45_alu_packed.md R214, R218: the equal case of each relation,
and the forms of 4 bytes with a carry out of the low subword. -/
theorem test_step_by_hand :
    let p := fun (i : Instr) => nextIs (exec i (start .x64 [(1, 0xFFFFFFFFFFFFFFFF)])) fun t => t.pred 1 && !t.pred 2
    (p (.cmpiLe 0 1 (-1) 1 2) && p (.cmpiLeu 0 1 0xFF 1 2) && p (.cmpiGeu 0 1 (-1) 1 2)
      && writes .x64 0xB0044380 [(2, 0x00000001FFFFFFFF), (3, 0x0000000200000001)] 0x0000000400000001
      && writes .x64 0xB8044380 [(2, 0x0000000500000000), (3, 0x0000000200000000)] 0x00000002FFFFFFFF) = true := by
  decide

/-- ENCODING is a parameter (00_scope.md R5): under a table the words of the reference encoding mean nothing, a listed
word means its first row, and a form that does not exist at the register size stays reserved (30_encoding.md R105). -/
theorem test_encoding_parameter :
    let e : Encoding := .table [(0, .addi 0 1 0 5), (0, .trap 0), (1, .padd8 0 1 2 3)]
    let s := fun (x : Xlen) => withCfg (start x []) fun c => { c with encoding := e }
    (nextIs (stepAt 0 (s .x32)) (fun t => decide (t.reg 32 1 = 5#32) && decide (t.pc = 0x1004#64) && !t.halted)
      && faultIs (stepAt 0x80045FFF (s .x64)) (.illegalInstruction 0x80045FFF)
      && faultIs (stepAt 1 (s .x32)) (.illegalInstruction 1)
      && nextIs (stepAt 1 (s .x64)) (fun t => decide (t.pc = 0x1004#64))) = true := by decide

/-! ### Witnesses: for every statement with hypotheses, states and operands that meet them, at the edges of their ranges -/

/-- A 64-bit machine with some registers set; P0 reads 1 and every other predicate 0. -/
abbrev w64 : State := start .x64 [(1, 0x1008), (2, 0xFEDC), (3, 0x10), (4, 0x40), (31, 0x200)]

/-- A 32-bit machine. -/
abbrev w32 : State := start .x32 [(1, 0x1008), (2, 0xFEDC), (3, 0x10)]

/-- `w64` with MEM_MAP = 0x0000 to 0x1FFF and TEXT = 0x0100 to 0x01FF. -/
abbrev wText : State := withCfg w64 fun c =>
  { c with memMap := [{ base := 0, size := 0x2000 }], text := [{ base := 0x100, size := 0x100 }] }

/-- `w64` under the ENCODING of a table. -/
abbrev wTable (rows : List (IWord × Instr)) : State := withCfg w64 fun c => { c with encoding := .table rows }

/-- `w64` with MEM_MAP = 0x0000 to top - 1. -/
abbrev wTop (top : Nat) : State := withCfg w64 fun c => { c with memMap := [{ base := 0, size := top }] }

theorem witness_StepRunsDecodedInstruction_big :
    let s := w64.withFetchWord 32 0x80045FFF
    (s.halted = false ∧ s.pcAddr % 4 = 0 ∧ (∀ j, j < 4 → s.cfg.mapped (s.pcAddr + j) = true)
      ∧ s.readByte s.pcAddr = some 0x80 ∧ s.readByte (s.pcAddr + 1) = some 0x04
      ∧ s.readByte (s.pcAddr + 2) = some 0x5F ∧ s.readByte (s.pcAddr + 3) = some 0xFF)
      ∧ decodeUnder s.cfg.encoding s.cfg.xlen (wordFrom s.cfg.byteOrder 0x80 0x04 0x5F 0xFF) = .ok (.addi 0 1 2 0x1FFF) :=
  ⟨by decide, rfl⟩

theorem witness_StepRunsDecodedInstruction_little :
    let s := (withCfg w32 fun c => { c with byteOrder := .little }).withFetchWord 32 0x80045FFF
    (s.halted = false ∧ s.pcAddr % 4 = 0 ∧ (∀ j, j < 4 → s.cfg.mapped (s.pcAddr + j) = true)
      ∧ s.readByte s.pcAddr = some 0xFF ∧ s.readByte (s.pcAddr + 1) = some 0x5F
      ∧ s.readByte (s.pcAddr + 2) = some 0x04 ∧ s.readByte (s.pcAddr + 3) = some 0x80)
      ∧ decodeUnder s.cfg.encoding s.cfg.xlen (wordFrom s.cfg.byteOrder 0xFF 0x5F 0x04 0x80) = .ok (.addi 0 1 2 0x1FFF) :=
  ⟨by decide, rfl⟩

theorem witness_StepRunsDecodedInstruction_table :
    let s := (wTable [(0xFFFFFFFF, .trap 0)]).withFetchWord 32 0xFFFFFFFF
    (s.halted = false ∧ s.pcAddr % 4 = 0 ∧ (∀ j, j < 4 → s.cfg.mapped (s.pcAddr + j) = true)
      ∧ s.readByte s.pcAddr = some 0xFF ∧ s.readByte (s.pcAddr + 1) = some 0xFF
      ∧ s.readByte (s.pcAddr + 2) = some 0xFF ∧ s.readByte (s.pcAddr + 3) = some 0xFF)
      ∧ decodeUnder s.cfg.encoding s.cfg.xlen (wordFrom s.cfg.byteOrder 0xFF 0xFF 0xFF 0xFF) = .ok (.trap 0) :=
  ⟨by decide, rfl⟩

theorem witness_FetchFaultsInOrder_misaligned :
    (w64.setPc 0x1001#64).halted = false ∧ (w64.setPc 0x1001#64).pcAddr % 4 ≠ 0 := by decide

/-- The first byte absent, and the last. -/
theorem witness_FetchFaultsInOrder_absent :
    (let s := wTop 0x1000
     s.halted = false ∧ s.pcAddr % 4 = 0 ∧ (∀ k, k < 0 → s.cfg.mapped (s.pcAddr + k) = true)
      ∧ s.cfg.mapped (s.pcAddr + 0) = false)
    ∧ (let s := wTop 0x1003
       s.halted = false ∧ s.pcAddr % 4 = 0 ∧ (∀ k, k < 3 → s.cfg.mapped (s.pcAddr + k) = true)
        ∧ s.cfg.mapped (s.pcAddr + 3) = false) := by decide

/-- The first byte without a value, and the last. -/
theorem witness_FetchFaultsInOrder_unwritten :
    (let s := w64
     s.halted = false ∧ s.pcAddr % 4 = 0 ∧ (∀ k, k < 4 → s.cfg.mapped (s.pcAddr + k) = true)
      ∧ (∀ k, k < 0 → s.readByte (s.pcAddr + k) ≠ none) ∧ s.readByte (s.pcAddr + 0) = none)
    ∧ (let s := { w64 with mem := [(0x1000, 1), (0x1001, 2), (0x1002, 3)] }
       s.halted = false ∧ s.pcAddr % 4 = 0 ∧ (∀ k, k < 4 → s.cfg.mapped (s.pcAddr + k) = true)
        ∧ (∀ k, k < 3 → s.readByte (s.pcAddr + k) ≠ none) ∧ s.readByte (s.pcAddr + 3) = none) := by decide

theorem witness_FetchFaultsInOrder_reserved :
    let s := w64.withFetchWord 32 0
    (s.halted = false ∧ s.pcAddr % 4 = 0 ∧ (∀ j, j < 4 → s.cfg.mapped (s.pcAddr + j) = true)
      ∧ s.readByte s.pcAddr = some 0 ∧ s.readByte (s.pcAddr + 1) = some 0
      ∧ s.readByte (s.pcAddr + 2) = some 0 ∧ s.readByte (s.pcAddr + 3) = some 0)
      ∧ decodeUnder s.cfg.encoding s.cfg.xlen (wordFrom s.cfg.byteOrder 0 0 0 0) = .error .reservedOpcode :=
  ⟨by decide, rfl⟩

theorem witness_DecodeEncodeIsIdentity :
    (Instr.load8Update 7 31 31 0x1FFF).wf .x64 = true ∧ (Instr.jmp 7 0x7FFFFF).wf .x32 = true := by decide

theorem witness_DecodedWordReencodes :
    decode .x64 0x0C7FFFFF = .ok (.trap 0) ∧ decode .x32 0xAC044380 = .ok (.padd4 0 1 2 3)
      ∧ decodeUnder .reference .x32 0xAC044380 = .ok (.padd4 0 1 2 3)
      ∧ decodeUnder (.table [(0, .padd4 0 1 2 3)]) .x32 0 = .ok (.padd4 0 1 2 3) := ⟨rfl, rfl, rfl, rfl⟩

/-- Two shift amounts with the same low bits on either side of the register size, the amount refused, the guard. -/
theorem witness_IgnoredFieldsHaveNoEffect :
    (let k : BitVec 13 := 1; let k' : BitVec 13 := 65
     k.toNat % w64.xlen = k'.toNat % w64.xlen ∧ k.toNat ≠ w64.xlen ∧ k'.toNat ≠ w64.xlen)
    ∧ (let k : BitVec 13 := 0; let k' : BitVec 13 := 128
       k.toNat % w64.xlen = k'.toNat % w64.xlen ∧ k.toNat ≠ w64.xlen ∧ k'.toNat ≠ w64.xlen)
    ∧ (let k : BitVec 8 := 0; let k' : BitVec 8 := 128
       k.toNat % (2 * w64.xlen) = k'.toNat % (2 * w64.xlen))
    ∧ w64.pred 0 = true ∧ (64 : BitVec 13).toNat = w64.xlen ∧ (8191 : BitVec 13).toNat ≠ w64.xlen := by decide

theorem witness_StepKeepsInvariant :
    (w64.withFetchWord 32 0x80045FFF).Inv ∧ ∃ t, step (w64.withFetchWord 32 0x80045FFF) = .next t :=
  ⟨by decide, ⟨_, rfl⟩⟩

theorem witness_configurations :
    (Config.referenceAt .x64).wf = true ∧ (Config.referenceAt .x32).wf = true ∧ wText.cfg.wf = true := by decide

theorem witness_ResetMeetsInvariant : (Config.referenceAt .x32).wf = true := by decide

theorem witness_ResetStateValues : (Config.referenceAt .x64).wf = true := by decide

theorem witness_HaltedStateStays :
    ∃ t, HaltsIn 1 (w64.withFetchWord 32 0x0C000000) t ∧ (1 ≤ 1 ∧ 1 ≤ 2) :=
  ⟨_, ⟨rfl, rfl⟩, by decide⟩

/-- A step runs while the first and the last byte of a TEXT region are program text. -/
theorem witness_TextNeverChanges :
    let s := wText.withFetchWord 32 0x80045FFF
    (∃ t, Host.Core.run Sys2Proof.core 1 s = .next t) ∧ s.cfg.inText 0x100 = true ∧ s.cfg.inText 0x1FF = true :=
  ⟨⟨_, rfl⟩, by decide, by decide⟩

theorem witness_NullifiedInstructionOnlyAdvances :
    ((Instr.jmp 1 8).wf w64.cfg.xlen = true ∧ w64.pred (Instr.jmp 1 8).guardField = false
      ∧ (opcodeOf (.jmp 1 8) = 0x03 → w64.cfg.trapPredicated = true))
    ∧ ((Instr.trap 7).wf w64.cfg.xlen = true ∧ w64.pred (Instr.trap 7).guardField = false
      ∧ (opcodeOf (.trap 7) = 0x03 → w64.cfg.trapPredicated = true)) := by decide

theorem witness_PredicateWriters_compare :
    (∃ t, exec (.cmpEq 0 1 2 1 7) w64 = .next t) ∧ IsCompare (.cmpEq 0 1 2 1 7)
      ∧ w64.pred (Instr.cmpEq 0 1 2 1 7).guardField = true :=
  ⟨⟨_, rfl⟩, .inl (by decide), by decide⟩

theorem witness_PredicateWriters_changepr_ld :
    (∃ t, exec (.changeprLd 0 15 0xFF) w64 = .next t) ∧ opcodeOf (.changeprLd 0 15 0xFF) = 0x0C
      ∧ w64.pred (Instr.changeprLd 0 15 0xFF).guardField = true :=
  ⟨⟨_, rfl⟩, by decide, by decide⟩

theorem witness_PredicateWriters_others :
    (∃ t, exec (.addi 0 1 2 3) w64 = .next t)
      ∧ ¬ (IsCompare (.addi 0 1 2 3) ∨ opcodeOf (.addi 0 1 2 3) = 0x0C)
      ∧ (∃ t, exec (.cmpEq 1 1 2 1 7) w64 = .next t) ∧ w64.pred (Instr.cmpEq 1 1 2 1 7).guardField = false :=
  ⟨⟨_, rfl⟩, by unfold IsCompare; decide, ⟨_, rfl⟩, by decide⟩

theorem witness_SelectorWriters :
    (∃ t, exec (.changepr 0 15) w64 = .next t) ∧ (∃ t, exec (.changepr 1 15) w64 = .next t)
      ∧ ((∃ t, exec (.jmp 0 8) w64 = .next t) ∧ ¬ (opcodeOf (.jmp 0 8) = 0x0B ∨ opcodeOf (.jmp 0 8) = 0x0C))
      ∧ w64.pred 0 = true ∧ (w64.setAps 15).pred (Instr.addi 0 1 2 3).guardField = w64.pred (Instr.addi 0 1 2 3).guardField
      ∧ (w64.setAps 15).pred (Instr.changepr 7 0).guardField = w64.pred (Instr.changepr 7 0).guardField :=
  ⟨⟨_, rfl⟩, ⟨_, rfl⟩, ⟨⟨_, rfl⟩, by decide⟩, by decide, by decide, by decide⟩

/-- A guard of P1 that reads 1 in set 3 and 1 in set 5 with other contents elsewhere. -/
theorem witness_PredicatesAreReadOnlyAsGuards :
    let s : State := { w64 with ps := w64.ps.set 3 0x01#7, aps := 3 }
    State.pred { s with ps := Vector.replicate 16 0x7F#7, aps := 5 } (Instr.addi 1 1 2 3).guardField
      = s.pred (Instr.addi 1 1 2 3).guardField := by decide

theorem witness_OnlyTrapHalts :
    (∃ t, exec (.trap 0) w64 = .next t) ∧ (∃ t, exec (.trap 1) w64 = .next t) ∧ ∃ t, exec (.jmp 0 8) w64 = .next t :=
  ⟨⟨_, rfl⟩, ⟨_, rfl⟩, ⟨_, rfl⟩⟩

theorem witness_OnlyStoresWriteMemory :
    (∃ t, exec (.addi 0 1 2 3) w64 = .next t) ∧ ¬ IsStore (.addi 0 1 2 3)
      ∧ (∃ t, exec (.store8Update 0 4 1 0) w64 = .next t) ∧ IsStore (.store8Update 0 4 1 0)
      ∧ (∃ t, exec (.store1 1 4 1 0) w64 = .next t) ∧ w64.pred (Instr.store1 1 4 1 0).guardField = false :=
  ⟨⟨_, rfl⟩, by unfold IsStore; decide, ⟨_, rfl⟩, by unfold IsStore; decide, ⟨_, rfl⟩, by decide⟩

theorem witness_RegistersChangeOnlyAtDestinations :
    (∃ t, exec (.load8Update 0 2 1 0) w64 = .next t) ∧ (∃ t, exec (.jmpLink 0 8) w64 = .next t)
      ∧ (∃ t, exec (.jmpLink 1 8) w64 = .next t) ∧ w64.pred (Instr.jmpLink 1 8).guardField = false :=
  ⟨⟨_, rfl⟩, ⟨_, rfl⟩, ⟨_, rfl⟩, by decide⟩

theorem witness_NonJumpsAdvanceThePc :
    ((∃ t, exec (.addi 0 1 2 3) w64 = .next t) ∧ ¬ IsJump (.addi 0 1 2 3) ∧ opcodeOf (.addi 0 1 2 3) ≠ 0x03)
      ∧ ((∃ t, exec (.jmp 1 8) w64 = .next t) ∧ w64.pred (Instr.jmp 1 8).guardField = false
        ∧ (opcodeOf (.jmp 1 8) = 0x03 → w64.cfg.trapPredicated = true))
      ∧ (∃ t, exec (.trap 0) w64 = .next t) ∧ opcodeOf (.trap 0) = 0x03
      ∧ w64.pred (Instr.trap 0).guardField = true :=
  ⟨⟨⟨_, rfl⟩, by unfold IsJump; decide, by decide⟩, ⟨⟨_, rfl⟩, by decide, by decide⟩, ⟨_, rfl⟩, by decide, by decide⟩

/-- A fault of every kind that exec can answer. -/
theorem witness_FaultsComeOnlyFromTheirCauses :
    exec (.load8 0 2 1 1) w64 = .fault (.misalignedData 0x1009)
      ∧ exec (.load8 0 2 1 0) (wTop 0x100F) = .fault (.accessFault 0x100F)
      ∧ exec (.testbit 0 1 3 7 7) w64 = .fault (.unspecifiedBehaviour .cmpSamePredicate)
      ∧ exec (.load1Update 0 31 31 0) w64 = .fault (.unspecifiedBehaviour .loadUpdateSameRegister)
      ∧ exec (.jmpRegLink 0 31) w64 = .fault (.unspecifiedBehaviour .linkThroughR31)
      ∧ exec (.srai 0 1 2 64) w64 = .fault (.unspecifiedBehaviour .shiftByXlen)
      ∧ exec (.extract 0 1 2 2 63) w64 = .fault (.unspecifiedBehaviour .bitfieldRange)
      ∧ exec (.deposit 0 1 2 0 0) w64 = .fault (.unspecifiedBehaviour .bitfieldRange)
      ∧ exec (.pshift2L 0 1 2 3) w64 = .fault (.unspecifiedBehaviour .packedShiftRange)
      ∧ exec (.pshifti2L 0 1 2 16) w64 = .fault (.unspecifiedBehaviour .packedShiftRange)
      ∧ exec (.store1 0 2 0 0x1FF) wText = .fault (.unspecifiedBehaviour .storeToText) :=
  ⟨rfl, rfl, rfl, rfl, rfl, rfl, rfl, rfl, rfl, rfl, rfl⟩

theorem witness_NothingIsRefused :
    (Instr.padd8 0 1 2 3).wf w64.cfg.xlen = true ∧ (Instr.padd8 0 1 2 3).wf w32.cfg.xlen = false := by decide

/-- The guard of the statements of results: P0 always reads 1, and any other predicate can. -/
theorem witness_guard :
    w64.pred 0 = true ∧ w32.pred 0 = true ∧ (w64.setPred 7 true).pred 7 = true ∧ w64.pred 7 = false := by decide

theorem witness_JumpResults : (w64.setPred 7 true).pred 7 = true := by decide

theorem witness_JumpRegisterResults :
    w64.pred 0 = true ∧ (30 : Reg) ≠ 31 ∧ (0 : Reg) ≠ 31 ∧ (31 : Reg) = 31 := by decide

theorem witness_TrapResult :
    w64.pred 0 = true ∧ (w64.pred 1 = false ∧ w64.cfg.trapPredicated = true)
      ∧ (withCfg w64 fun c => { c with trapPredicated := false }).cfg.trapPredicated = false := by decide

theorem witness_ChangeprResult :
    w64.pred 0 = true ∧ w64.aps.val = (0 : BitVec 4).toNat ∧ w64.pred 7 = false := by decide

theorem witness_ChangeprLoadResult : w64.pred 0 = true := by decide

theorem witness_CompareResults :
    w64.pred 0 = true ∧ ((1 : Pred) = 7 → (1 : Pred) = 0) ∧ ((0 : Pred) = 0 → (0 : Pred) = 0) := by decide

theorem witness_CompareImmediateResults :
    w32.pred 0 = true ∧ ((1 : Pred) = 7 → (1 : Pred) = 0) ∧ ((0 : Pred) = 0 → (0 : Pred) = 0) := by decide

theorem witness_TestBitResult :
    w64.pred 0 = true ∧ ((1 : Pred) = 7 → (1 : Pred) = 0) ∧ (63 : BitVec 8).toNat < w64.xlen
      ∧ w64.xlen ≤ (64 : BitVec 8).toNat ∧ w32.xlen ≤ (255 : BitVec 8).toNat := by decide

theorem witness_SamePredicateHasNoMeaning :
    let i := Instr.cmpiLt 0 1 0 7 7
    IsCompare i ∧ w64.pred i.guardField = true ∧ fPa (encode i) = fPb (encode i) ∧ fPa (encode i) ≠ 0 :=
  ⟨.inr (.inl (by decide)), by decide, by decide, by decide⟩

theorem witness_LoadImmediateResults : w64.pred 0 = true ∧ w32.pred 0 = true := by decide

/-- An access of each size at the last bytes of a small MEM_MAP. -/
theorem witness_LoadResults :
    let a := (w64.effectiveAddress 1 (-8)).toNat
    w64.pred 0 = true ∧ w64.cfg.xlen = .x64 ∧ a = 0x1000
      ∧ Admitted (wTop 0x1001).cfg a 1 ∧ Admitted (wTop 0x1002).cfg a 2
      ∧ Admitted (wTop 0x1004).cfg a 4 ∧ Admitted (wTop 0x1008).cfg a 8 :=
  ⟨by decide, by decide, by decide, ⟨by decide, by decide⟩, ⟨by decide, by decide⟩, ⟨by decide, by decide⟩,
    ⟨by decide, by decide⟩⟩

theorem witness_LoadUpdateResults :
    let a := (w64.effectiveAddress 1 0).toNat
    w64.pred 0 = true ∧ ((2 : Reg) = 1 → (2 : Reg) = 0) ∧ ((0 : Reg) = 0 → (0 : Reg) = 0) ∧ w64.cfg.xlen = .x64
      ∧ Admitted w64.cfg a 1 ∧ Admitted w64.cfg a 2 ∧ Admitted w64.cfg a 4 ∧ Admitted w64.cfg a 8 :=
  ⟨by decide, by decide, by decide, by decide, ⟨by decide, by decide⟩, ⟨by decide, by decide⟩,
    ⟨by decide, by decide⟩, ⟨by decide, by decide⟩⟩

/-- Addresses just after and just before a TEXT region. -/
theorem witness_StoreResults :
    wText.pred 0 = true ∧ wText.cfg.xlen = .x64 ∧ (wText.effectiveAddress 0 0x200).toNat = 0x200
      ∧ (Admitted wText.cfg 0x200 1 ∧ OutsideText wText.cfg 0x200 1)
      ∧ (Admitted wText.cfg 0x200 2 ∧ OutsideText wText.cfg 0x200 2)
      ∧ (Admitted wText.cfg 0xFC 4 ∧ OutsideText wText.cfg 0xFC 4)
      ∧ (Admitted wText.cfg 0xF8 8 ∧ OutsideText wText.cfg 0xF8 8) :=
  ⟨by decide, by decide, by decide, ⟨⟨by decide, by decide⟩, by unfold OutsideText; decide⟩,
    ⟨⟨by decide, by decide⟩, by unfold OutsideText; decide⟩, ⟨⟨by decide, by decide⟩, by unfold OutsideText; decide⟩,
    ⟨⟨by decide, by decide⟩, by unfold OutsideText; decide⟩⟩

theorem witness_StoreUpdateResults :
    let a := (wText.effectiveAddress 1 0).toNat
    wText.pred 0 = true ∧ wText.cfg.xlen = .x64
      ∧ (Admitted wText.cfg a 1 ∧ OutsideText wText.cfg a 1) ∧ (Admitted wText.cfg a 2 ∧ OutsideText wText.cfg a 2)
      ∧ (Admitted wText.cfg a 4 ∧ OutsideText wText.cfg a 4) ∧ (Admitted wText.cfg a 8 ∧ OutsideText wText.cfg a 8) :=
  ⟨by decide, by decide, ⟨⟨by decide, by decide⟩, by unfold OutsideText; decide⟩,
    ⟨⟨by decide, by decide⟩, by unfold OutsideText; decide⟩, ⟨⟨by decide, by decide⟩, by unfold OutsideText; decide⟩,
    ⟨⟨by decide, by decide⟩, by unfold OutsideText; decide⟩⟩

theorem witness_StoreThenLoadReturnsValue :
    let a := (wText.effectiveAddress 1 0).toNat
    wText.pred 0 = true ∧ (31 : Reg) ≠ 0 ∧ wText.cfg.xlen = .x64
      ∧ (Admitted wText.cfg a 1 ∧ OutsideText wText.cfg a 1) ∧ (Admitted wText.cfg a 2 ∧ OutsideText wText.cfg a 2)
      ∧ (Admitted wText.cfg a 4 ∧ OutsideText wText.cfg a 4) ∧ (Admitted wText.cfg a 8 ∧ OutsideText wText.cfg a 8) :=
  ⟨by decide, by decide, by decide, ⟨⟨by decide, by decide⟩, by unfold OutsideText; decide⟩,
    ⟨⟨by decide, by decide⟩, by unfold OutsideText; decide⟩, ⟨⟨by decide, by decide⟩, by unfold OutsideText; decide⟩,
    ⟨⟨by decide, by decide⟩, by unfold OutsideText; decide⟩⟩

theorem witness_RefusedAccessesFault_same_register :
    let i := Instr.load4Update 0 31 31 0
    i.wf w64.cfg.xlen = true ∧ IsAccess i ∧ w64.pred i.guardField = true
      ∧ IsLoadUpdate i ∧ fRd (encode i) = fRs1 (encode i) ∧ fRd (encode i) ≠ 0 :=
  ⟨by decide, by unfold IsAccess; decide, by decide, by unfold IsLoadUpdate; decide, by decide, by decide⟩

theorem witness_RefusedAccessesFault_misaligned :
    let i := Instr.load8Update 0 2 1 7
    i.wf w64.cfg.xlen = true ∧ IsAccess i ∧ w64.pred i.guardField = true
      ∧ ¬ (IsLoadUpdate i ∧ fRd (encode i) = fRs1 (encode i) ∧ fRd (encode i) ≠ 0)
      ∧ (wordAddress w64 (encode i)).toNat % accessBytes (encode i) ≠ 0 :=
  ⟨by decide, by unfold IsAccess; decide, by decide, by unfold IsLoadUpdate; decide, by decide⟩

/-- The last byte of the access absent, and the first. -/
theorem witness_RefusedAccessesFault_absent :
    let i := Instr.store8 0 2 1 0
    i.wf w64.cfg.xlen = true ∧ IsAccess i ∧ w64.pred i.guardField = true
      ∧ ¬ (IsLoadUpdate i ∧ fRd (encode i) = fRs1 (encode i) ∧ fRd (encode i) ≠ 0)
      ∧ (wordAddress w64 (encode i)).toNat % accessBytes (encode i) = 0
      ∧ ((7 < accessBytes (encode i) ∧ ∀ k, k < 7 → (wTop 0x100F).cfg.mapped (0x1008 + k) = true)
        ∧ (wTop 0x100F).cfg.mapped (0x1008 + 7) = false)
      ∧ (wTop 0x1008).cfg.mapped (0x1008 + 0) = false ∧ (wordAddress (wTop 0x1008) (encode i)).toNat = 0x1008 :=
  ⟨by decide, by unfold IsAccess; decide, by decide, by unfold IsLoadUpdate; decide, by decide, by decide, by decide,
    by decide⟩

/-- An access at the first bytes of TEXT and one at its last. -/
theorem witness_RefusedAccessesFault_text :
    let i := Instr.store8Update 0 2 0 0x100
    i.wf wText.cfg.xlen = true ∧ IsAccess i ∧ wText.pred i.guardField = true ∧ IsStore i
      ∧ (wordAddress wText (encode i)).toNat = 0x100 ∧ Admitted wText.cfg 0x100 (accessBytes (encode i))
      ∧ (0 < accessBytes (encode i) ∧ wText.cfg.inText (0x100 + 0) = true)
      ∧ Admitted wText.cfg 0x1F8 8 ∧ wText.cfg.inText (0x1F8 + 7) = true :=
  ⟨by decide, by unfold IsAccess; decide, by decide, by unfold IsStore; decide, by decide, ⟨by decide, by decide⟩,
    by decide, ⟨by decide, by decide⟩, by decide⟩

theorem witness_AddSubImmediateResults : w64.pred 0 = true ∧ w32.pred 0 = true := by decide

theorem witness_LogicalImmediateResults : w64.pred 0 = true ∧ w32.pred 0 = true := by decide

theorem witness_ScalarShiftResults :
    w64.pred 0 = true ∧ (63 : BitVec 13).toNat ≠ w64.xlen ∧ (65 : BitVec 13).toNat ≠ w64.xlen
      ∧ (64 : BitVec 13).toNat = w64.xlen ∧ (32 : BitVec 13).toNat = w32.xlen := by decide

theorem witness_ShiftRightPairResult : w64.pred 0 = true ∧ w32.pred 0 = true := by decide

/-- The longest field at each end, and the three ways out of range. -/
theorem witness_ExtractDepositResults :
    w64.pred 0 = true
      ∧ (0 < (63 : BitVec 6).toNat ∧ (1 : BitVec 7).toNat + (63 : BitVec 6).toNat ≤ w64.xlen)
      ∧ (0 < (1 : BitVec 6).toNat ∧ (63 : BitVec 7).toNat + (1 : BitVec 6).toNat ≤ w64.xlen)
      ∧ (0 : BitVec 6).toNat = 0 ∧ w64.xlen < (64 : BitVec 7).toNat + (1 : BitVec 6).toNat
      ∧ w64.xlen < (2 : BitVec 7).toNat + (63 : BitVec 6).toNat := by decide

theorem witness_LogicalResults : w64.pred 0 = true ∧ w32.pred 0 = true := by decide

theorem witness_PackedModularResults : w64.pred 0 = true ∧ w64.cfg.xlen = .x64 := by decide

theorem witness_PackedSaturatingResults : w64.pred 0 = true ∧ w64.cfg.xlen = .x64 := by decide

theorem witness_PackedAverageResults : w64.pred 0 = true := by decide

theorem witness_PackedSubtractAverageResults :
    w64.pred 0 = true ∧ (withCfg w64 fun c => { c with subAvgTop := .carry }).pred 0 = true := by decide

theorem witness_PackedCompareResults : w64.pred 0 = true ∧ w64.cfg.xlen = .x64 := by decide

theorem witness_PackedMaxMinResults : w64.pred 0 = true := by decide

theorem witness_PackedShiftAddResults :
    w64.pred 0 = true ∧ (withCfg w64 fun c => { c with shiftAddShift := .saturating }).pred 0 = true := by decide

theorem witness_PackedMultiplyResults : w64.pred 0 = true ∧ w32.pred 0 = true := by decide

theorem witness_PackedMultiplyShiftResults : w64.pred 0 = true ∧ w32.pred 0 = true := by decide

/-- The greatest amount each width takes and the least it refuses. -/
theorem witness_PackedShiftResults :
    (let k := fun n => (((start .x64 [(3, n)]).reg (start .x64 [(3, n)]).xlen 3)).toNat
     k 15 < 16 ∧ 16 ≤ k 16 ∧ k 31 < 32 ∧ 32 ≤ k 32 ∧ k 63 < 64 ∧ 64 ≤ k 64)
    ∧ w64.pred 0 = true ∧ w64.cfg.xlen = .x64 := by decide

theorem witness_PackedShiftImmediateResults :
    w64.pred 0 = true ∧ w64.cfg.xlen = .x64 ∧ (15 : BitVec 5).toNat < 16 ∧ 16 ≤ (16 : BitVec 5).toNat
      ∧ 16 ≤ (31 : BitVec 5).toNat ∧ (31 : BitVec 5).toNat < 32 ∧ (31 : BitVec 5).toNat < 64 := by decide

theorem witness_MixResults : w64.pred 0 = true ∧ w64.cfg.xlen = .x64 := by decide

theorem witness_MuxReverseBroadcastResults : w64.pred 0 = true ∧ (31 : Reg) ≠ 0 := by decide

theorem witness_MuxTableResults : w64.pred 0 = true ∧ w32.pred 0 = true := by decide

theorem witness_MuxReferenceFormulas :
    (w64.pred 0 = true ∧ w64.cfg.muxTable = MuxTable.reference w64.cfg.xlen ∧ (31 : Reg) ≠ 0)
      ∧ w32.pred 0 = true ∧ w32.cfg.muxTable = MuxTable.reference w32.cfg.xlen := by decide

theorem witness_PermResult :
    w64.pred 0 = true ∧ (withCfg w64 fun c => { c with permLayout := { selectors := .right, counting := .right } }).pred 0
      = true := by decide

end Sys2Proof.Tests
end

section
/-! PROOFS. The predicate sets and the selector as data: no instruction reads them but through its guard. One lemma per
shared operation, one over all instructions (10_state.md section 4). -/

namespace Sys2Proof.Machine
open Sys2Proof

/-! ### A state with other predicates -/

/-- The state with other contents of the sixteen predicate sets and another selector. -/
def State.withPreds (s : State) (ps : Vector (BitVec 7) 16) (k : PredSet) : State := { s with ps := ps, aps := k }

/-- Another selector is other predicates with the same sets. -/
theorem State.setAps_eq_withPreds (s : State) (k : PredSet) : s.setAps k = s.withPreds s.ps k := rfl

section WithPreds
variable (s : State) (ps : Vector (BitVec 7) 16) (k : PredSet)

theorem State.loadBytes_withPreds (a n : Nat) : (s.withPreds ps k).loadBytes a n = s.loadBytes a n := by
  induction n generalizing a with
  | zero => rfl
  | succ n ih => exact congrArg (s.loadByte a :: ·) (ih (a + 1))

theorem State.memRead_withPreds {N : Nat} (ea : BitVec N) (n : Nat) :
    (s.withPreds ps k).memRead ea n = s.memRead ea n := by
  unfold State.memRead
  rw [State.loadBytes_withPreds]
  rfl

theorem State.memWrite_withPreds {N m : Nat} (ea : BitVec N) (n : Nat) (v : BitVec m) :
    (s.withPreds ps k).memWrite ea n v = (s.memWrite ea n v).map (·.withPreds ps k) := by
  simp only [State.memWrite, State.withPreds]
  split
  · rfl
  · rw [apply_ite (Except.map _)]
    rfl

/-- The read of a load, its address taken in the same state. -/
theorem State.memRead_effectiveAddress_withPreds (rs1 : Reg) (imm13 : BitVec 13) (n : Nat) :
    (s.withPreds ps k).memRead ((s.withPreds ps k).effectiveAddress rs1 imm13) n
      = s.memRead (s.effectiveAddress rs1 imm13) n := State.memRead_withPreds ..

/-- The write of a store, its address and value taken in the same state. -/
theorem State.memWrite_effectiveAddress_withPreds (rd rs1 : Reg) (imm13 : BitVec 13) (n : Nat) :
    (s.withPreds ps k).memWrite ((s.withPreds ps k).effectiveAddress rs1 imm13) n
        ((s.withPreds ps k).reg (s.withPreds ps k).xlen rd)
      = (s.memWrite (s.effectiveAddress rs1 imm13) n (s.reg s.xlen rd)).map (·.withPreds ps k) :=
    State.memWrite_withPreds ..

theorem State.setReg_withPreds (r : Reg) {N : Nat} (v : BitVec N) :
    (s.withPreds ps k).setReg r v = (s.setReg r v).withPreds ps k := by
  unfold State.setReg
  split <;> rfl

end WithPreds

/-- A predicate write changes only predicates. -/
theorem State.setPred_eq_withPreds (s : State) (i : Pred) (b : Bool) :
    s.setPred i b = s.withPreds (s.setPred i b).ps s.aps := by
  unfold State.setPred
  split <;> rfl

/-! ### Agreement of the shared operations on a state and on it with other predicates -/

section Agree
variable {s : State} {ps : Vector (BitVec 7) 16} {k : PredSet}

/-- Next states that differ in predicates alone agree. -/
theorem agree_next : AgreeButPredicates (.next s) (.next (s.withPreds ps k)) := rfl

theorem agree_guarded {p : Pred} {o o' : Result} (hg : (s.withPreds ps k).pred p = s.pred p)
    (h : AgreeButPredicates o o') :
    AgreeButPredicates (guarded p s o) (guarded p (s.withPreds ps k) o') := by
  unfold guarded
  rw [hg]
  split
  · exact h
  · rfl

theorem agree_ite {c : Prop} [Decidable c] {o₁ o₂ o₁' o₂' : Result} (h₁ : AgreeButPredicates o₁ o₁')
    (h₂ : AgreeButPredicates o₂ o₂') : AgreeButPredicates (if c then o₁ else o₂) (if c then o₁' else o₂') := by
  split
  · exact h₁
  · exact h₂

/-- A case to which the spec gives no meaning stops both runs alike. -/
theorem agree_unspecified {u : UnspecifiedCase} : AgreeButPredicates (unspecified u) (unspecified u) := rfl

theorem agree_sized {w : Nat} {o o' : Result} (h : AgreeButPredicates o o') :
    AgreeButPredicates (sized w s o) (sized w (s.withPreds ps k) o') :=
  agree_ite (c := w ≤ s.xlen) h (o₂ := .refused .absentForm) (o₂' := .refused .absentForm) rfl

theorem agree_writeReg {rd : Reg} {N : Nat} {v : BitVec N} :
    AgreeButPredicates (writeReg s rd v) (writeReg (s.withPreds ps k) rd v) := by
  unfold writeReg
  rw [State.setReg_withPreds]
  rfl

/-- The end of two predicate writes: the predicates may differ after them, nothing else. -/
theorem agree_finish_setPred (i j : Pred) (b c : Bool) :
    AgreeButPredicates (finish ((s.setPred i b).setPred j c))
      (finish (((s.withPreds ps k).setPred i b).setPred j c)) := by
  rw [State.setPred_eq_withPreds (s.setPred i b), State.setPred_eq_withPreds s,
    State.setPred_eq_withPreds ((s.withPreds ps k).setPred i b), State.setPred_eq_withPreds (s.withPreds ps k)]
  rfl

theorem agree_jumpLink {v : BitVec s.xlen} :
    AgreeButPredicates (.next ((s.setReg linkReg (s.pcv s.xlen + 4#s.xlen)).setPc v))
      (.next (((s.withPreds ps k).setReg linkReg (s.pcv s.xlen + 4#s.xlen)).setPc v)) := by
  rw [State.setReg_withPreds]
  rfl

/-! ### Agreement of the guarded operations, under a guard that reads the same -/

variable {p : Pred} (hg : (s.withPreds ps k).pred p = s.pred p)
include hg

theorem agree_guarded_writeReg {rd : Reg} {N : Nat} {v : BitVec N} :
    AgreeButPredicates (guarded p s (writeReg s rd v))
      (guarded p (s.withPreds ps k) (writeReg (s.withPreds ps k) rd v)) :=
  agree_guarded hg agree_writeReg

/-- A guarded write of one register under a condition that otherwise has no meaning. -/
theorem agree_guarded_writeReg_if {c : Prop} [Decidable c] {u : UnspecifiedCase} {rd : Reg} {N : Nat} {v : BitVec N} :
    AgreeButPredicates (guarded p s (if c then unspecified u else writeReg s rd v))
      (guarded p (s.withPreds ps k) (if c then unspecified u else writeReg (s.withPreds ps k) rd v)) :=
  agree_guarded hg (agree_ite agree_unspecified agree_writeReg)

theorem agree_writePreds {pa pb : Pred} {b : Bool} :
    AgreeButPredicates (writePreds p pa pb s b) (writePreds p pa pb (s.withPreds ps k) b) :=
  agree_guarded hg (agree_ite agree_unspecified (agree_finish_setPred pa pb b (!b)))

theorem agree_trap : AgreeButPredicates (execTrap p s) (execTrap p (s.withPreds ps k)) :=
  have hhalt : AgreeButPredicates (.next s.halt) (.next (s.withPreds ps k).halt) := agree_next (s := s.halt)
  agree_ite (agree_guarded hg hhalt) hhalt

theorem agree_load {n : Nat} {rd rs1 : Reg} {imm13 : BitVec 13} :
    AgreeButPredicates (load n p rd rs1 imm13 s) (load n p rd rs1 imm13 (s.withPreds ps k)) := by
  refine agree_sized (agree_guarded hg ?_)
  rw [State.memRead_effectiveAddress_withPreds]
  cases s.memRead (s.effectiveAddress rs1 imm13) n with
  | error f => rfl
  | ok v => exact agree_writeReg

theorem agree_loadUpdate {n : Nat} {rd rs1 : Reg} {imm13 : BitVec 13} :
    AgreeButPredicates (loadUpdate n p rd rs1 imm13 s) (loadUpdate n p rd rs1 imm13 (s.withPreds ps k)) := by
  refine agree_sized (agree_guarded hg (agree_ite agree_unspecified ?_))
  rw [State.memRead_effectiveAddress_withPreds]
  cases s.memRead (s.effectiveAddress rs1 imm13) n with
  | error f => rfl
  | ok v =>
    dsimp only
    rw [State.setReg_withPreds]
    exact agree_writeReg

theorem agree_store {n : Nat} {rd rs1 : Reg} {imm13 : BitVec 13} :
    AgreeButPredicates (store n p rd rs1 imm13 s) (store n p rd rs1 imm13 (s.withPreds ps k)) := by
  refine agree_sized (agree_guarded hg ?_)
  rw [State.memWrite_effectiveAddress_withPreds]
  cases s.memWrite (s.effectiveAddress rs1 imm13) n (s.reg s.xlen rd) with
  | error f => rfl
  | ok t => rfl

theorem agree_storeUpdate {n : Nat} {rd rs1 : Reg} {imm13 : BitVec 13} :
    AgreeButPredicates (storeUpdate n p rd rs1 imm13 s) (storeUpdate n p rd rs1 imm13 (s.withPreds ps k)) := by
  refine agree_sized (agree_guarded hg ?_)
  rw [State.memWrite_effectiveAddress_withPreds]
  cases s.memWrite (s.effectiveAddress rs1 imm13) n (s.reg s.xlen rd) with
  | error f => rfl
  | ok t => exact agree_writeReg

end Agree

/-- No instruction reads a predicate but its guard: with other contents of the predicate sets and of the selector under
which the guard reads the same, exec answers alike. -/
theorem exec_agree_withPreds {i : Instr} {s : State} {ps : Vector (BitVec 7) 16} {k : PredSet}
    (hg : (s.withPreds ps k).pred i.guardField = s.pred i.guardField) :
    AgreeButPredicates (exec i s) (exec i (s.withPreds ps k)) := by
  cases i with
  | trap => exact agree_trap hg
  | jmp | jmpReg | changepr | changeprLd => exact agree_guarded hg rfl
  | jmpLink => exact agree_guarded hg agree_jumpLink
  | jmpRegLink => exact agree_guarded hg (agree_ite agree_unspecified agree_jumpLink)
  | cmpEq | cmpNe | cmpLt | cmpLe | cmpGt | cmpGe | cmpLtu | cmpLeu | cmpGtu | cmpGeu
  | cmpiEq | cmpiNe | cmpiLt | cmpiLe | cmpiGt | cmpiGe | cmpiLtu | cmpiLeu | cmpiGtu | cmpiGeu
  | testbit => exact agree_writePreds hg
  | load1 | load2 | load4 | load8 => exact agree_load hg
  | load1Update | load2Update | load4Update | load8Update => exact agree_loadUpdate hg
  | store1 | store2 | store4 | store8 => exact agree_store hg
  | store1Update | store2Update | store4Update | store8Update => exact agree_storeUpdate hg
  | loadiHi | loadiLo | addi | subi | andi | ori | xori | shrp | andReg | andcm | orReg | xorReg | notReg
  | muxRev | muxMix | muxShuf | muxAlt | muxBrcst | perm | pmulOdd | pmulEven
  | pmulshr0 | pmulshr8 | pmulshr15 | pmulshr16 | pmulshr0A | pmulshr8A | pmulshr15A | pmulshr16A =>
    exact agree_guarded_writeReg hg
  | slli | srli | srai | extract | deposit => exact agree_guarded_writeReg_if hg
  | mix1L | mix2L | mix4L | mix1R | mix2R | mix4R
  | padd1 | padd2 | padd4 | padd8 | padd1U | padd2U | padd4U | padd8U | padd1S | padd2S | padd4S | padd8S
  | paddincr1 | paddincr2 | paddincr4 | paddincr8
  | psub1 | psub2 | psub4 | psub8 | psub1U | psub2U | psub4U | psub8U | psub1S | psub2S | psub4S | psub8S
  | psubdecr1 | psubdecr2 | psubdecr4 | psubdecr8
  | pavg1 | pavg2 | pavg1Raz | pavg2Raz | psubavg1 | psubavg2
  | pcmp1Eq | pcmp2Eq | pcmp4Eq | pcmp8Eq | pcmp1Gt | pcmp2Gt | pcmp4Gt | pcmp8Gt
  | pmax1 | pmax2 | pmin1 | pmin2
  | pshiftadd1L | pshiftadd2L | pshiftadd3L | pshiftadd1R | pshiftadd2R | pshiftadd3R =>
    exact agree_sized (agree_guarded_writeReg hg)
  | pshift2L | pshift4L | pshift8L | pshift2R | pshift4R | pshift8R | pshift2Ra | pshift4Ra | pshift8Ra
  | pshifti2L | pshifti4L | pshifti8L | pshifti2R | pshifti4R | pshifti8R
  | pshifti2Ra | pshifti4Ra | pshifti8Ra => exact agree_sized (agree_guarded_writeReg_if hg)

end Sys2Proof.Machine
end

section
/-! PROOFS. The selector aps: who writes it, and that nobody reads it but through a guard (10_state.md R29). -/

namespace Sys2Proof.Machine
open Sys2Proof

/-- The selector after an executed instruction: the 4-bit immediate of changepr and changepr.ld, and otherwise the
selector before it. -/
theorem Executed.aps_eq {i : Instr} {s t : State} (h : Executed i s t) :
    t.aps = if opcodeOf i = 0x0B ∨ opcodeOf i = 0x0C then (fLow4 (encode i)).toFin else s.aps := by
  cases h with
  | changepr hop => rw [if_pos (.inl hop)]; rfl
  | changeprLd hop => rw [if_pos (.inr hop)]; rfl
  | jump v hop => rw [if_neg (by omega)]; rfl
  | jumpLink v hop => rw [if_neg (by omega)]; simp
  | trap hop => rw [if_neg (by omega)]; rfl
  | compare b hop => rw [if_neg (by unfold IsCompare at hop; omega)]; simp
  | write v hop => rw [if_neg (by omega)]; simp
  | loadUpdate v hop => rw [if_neg (by unfold IsLoadUpdate at hop; omega)]; simp
  | store u hop hlt hw =>
    obtain ⟨-, -, rfl⟩ := State.memWrite_ok hw
    rw [if_neg (by unfold IsStore at hop; omega)]; rfl
  | storeUpdate u hop hge hw =>
    obtain ⟨-, -, rfl⟩ := State.memWrite_ok hw
    rw [if_neg (by unfold IsStore at hop; omega)]; simp

/-- An instruction leaves the selector as it was, or is changepr or changepr.ld and leaves its 4-bit immediate. -/
theorem exec_aps {i : Instr} {s t : State} (h : exec i s = .next t) :
    t.aps = s.aps ∨ (opcodeOf i = 0x0B ∨ opcodeOf i = 0x0C) ∧ t.aps = (fLow4 (encode i)).toFin := by
  cases exec_next h with
  | nullified => exact .inl rfl
  | executed hp hx =>
    rw [hx.aps_eq]
    split
    · exact .inr ⟨by assumption, rfl⟩
    · exact .inl rfl

theorem exec_changepr_of_true {s : State} {p : Pred} (hp : s.pred p = true) (imm4 : BitVec 4) :
    exec (.changepr p imm4) s = .next (s.setAps imm4.toFin).advance :=
  guarded_of_true _ hp

theorem exec_changeprLd_of_true {s : State} {p : Pred} (hp : s.pred p = true) (imm4 : BitVec 4) (imm8 : BitVec 8) :
    exec (.changeprLd p imm4 imm8) s = .next ((s.setAps imm4.toFin).loadPreds imm8).advance :=
  guarded_of_true _ hp

/-- Settles O14: the writers by the shapes of the next states (`exec_next`), the readers by `exec_agree_withPreds`. -/
theorem selectorWriters : Obligations.SelectorWriters := by
  refine ⟨fun i s t h => ?_, fun s p imm4 imm8 hp => ?_, fun i s k hg => ?_⟩
  · rcases exec_aps h with hkeep | ⟨hop, hset⟩
    · exact ⟨fun _ => hkeep, .inl hkeep⟩
    · exact ⟨fun hne => absurd hop hne, .inr hset⟩
  · exact ⟨⟨_, exec_changepr_of_true hp imm4, rfl⟩, _, exec_changeprLd_of_true hp imm4 imm8, rfl⟩
  · rw [State.setAps_eq_withPreds] at hg ⊢
    exact exec_agree_withPreds hg

end Sys2Proof.Machine
end

section
/-! PROOFS. Words written out field by field (word0 to word5) are the encoder's words of placed fields, and so the laws
of the encoder's fields read them back (30_encoding.md R84 to R93). -/

namespace Sys2Proof.Machine
open Sys2Proof

/-! ### Concatenation as placing -/

theorem place_append (lo : Nat) {m n : Nat} (x : BitVec m) (y : BitVec n) :
    place lo (x ++ y) = place (n + lo) x ||| place lo y := by
  apply BitVec.eq_of_getLsbD_eq
  intro i hi
  simp only [place, BitVec.getLsbD_or, BitVec.getLsbD_shiftLeft, BitVec.getLsbD_setWidth, BitVec.getLsbD_append]
  by_cases hlo : i < lo
  · simp [hlo, Nat.lt_add_left n hlo]
  · by_cases hy : i - lo < n
    · simp [hy, show i < n + lo by omega]
    · have hsub : i - lo - n = i - (n + lo) := by omega
      have hyz : y.getLsbD (i - lo) = false := BitVec.getLsbD_of_ge y _ (by omega)
      simp [hy, hlo, hsub, hyz, show ¬ i < n + lo by omega, show i - lo < 32 by omega,
        show i - (n + lo) < 32 by omega]

/-- A whole word is a field of 32 bits. -/
theorem place_zero (w : IWord) : place 0 w = w := by simp [place]

/-! ### The words of the spec's bit patterns are those of the encoder's formats -/

theorem word0_eq_fmt0 (op : BitVec 6) (p : Pred) (imm23 : BitVec 23) : word0 op p imm23 = fmt0 op p imm23 := by
  rw [← place_zero (word0 op p imm23)]
  simp only [word0, place_append]
  rfl

theorem word1_eq_fmt1 (op : BitVec 6) (p : Pred) (rd : Reg) (imm18 : BitVec 18) :
    word1 op p rd imm18 = fmt1 op p rd imm18 := by
  rw [← place_zero (word1 op p rd imm18)]
  simp only [word1, place_append]
  rfl

theorem word2_eq_fmt2 (op : BitVec 6) (p : Pred) (rd rs1 : Reg) (imm13 : BitVec 13) :
    word2 op p rd rs1 imm13 = fmt2 op p rd rs1 imm13 := by
  rw [← place_zero (word2 op p rd rs1 imm13)]
  simp only [word2, place_append]
  rfl

theorem word2_eq_fmt4c (op : BitVec 6) (p : Pred) (rd rs1 rs2 : Reg) (imm8 : BitVec 8) :
    word2 op p rd rs1 (BitVec.ofFin (w := 5) rs2 ++ imm8) = fmt4c op p rd rs1 rs2 imm8 := by
  rw [word2_eq_fmt2, fmt2, place_append, ← BitVec.or_assoc]
  rfl

theorem word4_eq_fmt4a (op : BitVec 6) (p : Pred) (rd rs1 rs2 : Reg) (swc : BitVec 2) (var sa : BitVec 3) :
    word4 op p rd rs1 rs2 swc var sa = fmt4a op p rd rs1 rs2 swc var sa := by
  rw [← place_zero (word4 op p rd rs1 rs2 swc var sa)]
  simp only [word4, place_append]
  rfl

theorem word5_eq_fmt5b (op : BitVec 6) (p : Pred) (rs1 : Reg) (imm8 : BitVec 8) (pa pb : Pred) (low : BitVec 4) :
    word5 op p rs1 imm8 pa pb low = fmt5b op p rs1 imm8 pa pb low := by
  rw [← place_zero (word5 op p rs1 imm8 pa pb low)]
  simp only [word5, place_append]
  rfl

theorem fImm16_fmt1 (op : BitVec 6) (p : Pred) (rd : Reg) (imm18 : BitVec 18) :
    fImm16 (fmt1 op p rd imm18) = imm18.setWidth 16 := by
  simp [fImm16, fmt1, header, placeReg, placePred, extract_or, extract_place_low, extract_place_apart]

/-- The two high bits of imm18 of format 1, which loadi ignores (R100). -/
theorem extract_high_fmt1 (op : BitVec 6) (p : Pred) (rd : Reg) (imm16 : BitVec 16) :
    (fmt1 op p rd (imm16.setWidth 18)).extractLsb' 16 2 = 0#2 := by
  have himm : place 0 (imm16.setWidth 18) = place 0 imm16 := by simp [place]
  simp [fmt1, header, placeReg, placePred, himm, extract_or, extract_place_apart]

end Sys2Proof.Machine
end

section
/-! PROOFS. The fields that instructions ignore (30_encoding.md R100): the decoder does not look at them, the encoder
writes zeros there; and the high bits of the shift amounts, which the scalar shifts ignore (44_shift_bitfield.md R190,
R194). -/

namespace Sys2Proof.Machine
open Sys2Proof

/-! ### Decoding a word with any contents of its ignored field -/

theorem decode_trap_word (x : Xlen) (p : Pred) (imm23 : BitVec 23) :
    decode x (word0 0x03 p imm23) = .ok (.trap p) := by
  simp [word0_eq_fmt0, decode, fOpcode_fmt0, fP_fmt0]

theorem decode_loadiHi_word (x : Xlen) (p : Pred) (rd : Reg) (imm18 : BitVec 18) :
    decode x (word1 0x06 p rd imm18) = .ok (.loadiHi p rd (imm18.setWidth 16)) := by
  simp [word1_eq_fmt1, decode, fOpcode_fmt1, fP_fmt1, fRd_fmt1, fImm16_fmt1]

theorem decode_loadiLo_word (x : Xlen) (p : Pred) (rd : Reg) (imm18 : BitVec 18) :
    decode x (word1 0x07 p rd imm18) = .ok (.loadiLo p rd (imm18.setWidth 16)) := by
  simp [word1_eq_fmt1, decode, fOpcode_fmt1, fP_fmt1, fRd_fmt1, fImm16_fmt1]

theorem decode_testbit_word (x : Xlen) (p : Pred) (rd : Reg) (imm8 : BitVec 8) (pa pb : Pred) (imm4 : BitVec 4) :
    decode x (word5 0x0A p rd imm8 pa pb imm4) = .ok (.testbit p rd imm8 pa pb) := by
  simp [word5_eq_fmt5b, decode, fOpcode_fmt5b, fP_fmt5b, fRd_fmt5b, fImm8_fmt5b, fPa_fmt5b, fPb_fmt5b]

theorem decode_changepr_word (x : Xlen) (p : Pred) (imm8 : BitVec 8) (imm4 : BitVec 4) :
    decode x (word5 0x0B p 0 imm8 0 0 imm4) = .ok (.changepr p imm4) := by
  simp [word5_eq_fmt5b, decode, fOpcode_fmt5b, fP_fmt5b, fRd_fmt5b, fPa_fmt5b, fPb_fmt5b, fLow4_fmt5b]

theorem decode_notReg_word (x : Xlen) (p : Pred) (rd rs1 rs2 : Reg) :
    decode x (word4 0x35 p rd rs1 rs2 0 0 0) = .ok (.notReg p rd rs1) := by
  simp [word4_eq_fmt4a, decode, decodeNot, fOpcode_fmt4a, fP_fmt4a, fRd_fmt4a, fRs1_fmt4a, fSwc_fmt4a, fVar_fmt4a,
    fSa_fmt4a]

/-! ### Decoding the shift amounts -/

theorem decode_slli_word (x : Xlen) (p : Pred) (rd rs1 : Reg) (imm13 : BitVec 13) :
    decode x (word2 0x25 p rd rs1 imm13) = .ok (.slli p rd rs1 imm13) := by
  simp [word2_eq_fmt2, decode, fOpcode_fmt2, fP_fmt2, fRd_fmt2, fRs1_fmt2, fImm13_fmt2]

theorem decode_srli_word (x : Xlen) (p : Pred) (rd rs1 : Reg) (imm13 : BitVec 13) :
    decode x (word2 0x26 p rd rs1 imm13) = .ok (.srli p rd rs1 imm13) := by
  simp [word2_eq_fmt2, decode, fOpcode_fmt2, fP_fmt2, fRd_fmt2, fRs1_fmt2, fImm13_fmt2]

theorem decode_srai_word (x : Xlen) (p : Pred) (rd rs1 : Reg) (imm13 : BitVec 13) :
    decode x (word2 0x27 p rd rs1 imm13) = .ok (.srai p rd rs1 imm13) := by
  simp [word2_eq_fmt2, decode, fOpcode_fmt2, fP_fmt2, fRd_fmt2, fRs1_fmt2, fImm13_fmt2]

theorem decode_shrp_word (x : Xlen) (p : Pred) (rd rs1 rs2 : Reg) (imm8 : BitVec 8) :
    decode x (word2 0x28 p rd rs1 (BitVec.ofFin (w := 5) rs2 ++ imm8)) = .ok (.shrp p rd rs1 rs2 imm8) := by
  simp [word2_eq_fmt4c, decode, fOpcode_fmt4c, fP_fmt4c, fRd_fmt4c, fRs1_fmt4c, fRs2_fmt4c, fImm8c_fmt4c]

/-! ### Zeros in the ignored fields of encoded words -/

/-- The opcodes that have an ignored field: trap, loadi, testbit, changepr, not (R100). -/
def HasIgnoredField (op : Nat) : Prop := op = 0x03 ∨ op = 0x06 ∨ op = 0x07 ∨ op = 0x0A ∨ op = 0x0B ∨ op = 0x35

/-- A word holds zero in its ignored fields. -/
def IgnoredClear (w : IWord) : Prop := w &&& ignoredMask w = 0

theorem ignoredClear_of_opcode {w : IWord} (h : ¬ HasIgnoredField (fOpcode w)) : IgnoredClear w := by
  have hmask : ignoredMask w = 0#32 := by
    simp only [HasIgnoredField, not_or] at h
    simp [ignoredMask, h]
  simp [IgnoredClear, hmask]

/-- A word whose ignored field is the n bits from bit lo holds zero there if that field reads zero. -/
theorem ignoredClear_of_extract {w : IWord} (lo n : Nat) (hmask : ignoredMask w = place lo (BitVec.allOnes n))
    (h : w.extractLsb' lo n = 0#n) : IgnoredClear w := by
  rw [IgnoredClear, hmask]
  apply BitVec.eq_of_getLsbD_eq
  intro i hi
  by_cases hin : lo ≤ i ∧ i < lo + n
  · have hbit : w.getLsbD i = false := by
      have hzero := congrArg (fun v => v.getLsbD (i - lo)) h
      simpa [show i - lo < n by omega, show lo + (i - lo) = i by omega] using hzero
    simp [hbit]
  · have hout : (place lo (BitVec.allOnes n)).getLsbD i = false := by
      simp [place]
      omega
    simp [hout]

/-- The encoder writes zeros in ignored fields (R103): the ignored field of each instruction that has one reads zero in
its word, and no other opcode has one. -/
theorem encode_ignoredClear (i : Instr) : IgnoredClear (encode i) := by
  cases i with
  | trap =>
    exact ignoredClear_of_extract 0 23 (by rw [ignoredMask, encode, fOpcode_fmt0]; rfl) (fImm23_fmt0 ..)
  | loadiHi | loadiLo =>
    exact ignoredClear_of_extract 16 2 (by rw [ignoredMask, encode, fOpcode_fmt1]; rfl) (extract_high_fmt1 ..)
  | testbit =>
    exact ignoredClear_of_extract 0 4 (by rw [ignoredMask, encode, fOpcode_fmt5b]; rfl) (fLow4_fmt5b ..)
  | changepr =>
    exact ignoredClear_of_extract 10 8 (by rw [ignoredMask, encode, fOpcode_fmt5b]; rfl) (fImm8_fmt5b ..)
  | notReg =>
    exact ignoredClear_of_extract 8 5 (by rw [ignoredMask, encode, fOpcode_fmt4a]; rfl)
      (congrArg BitVec.ofFin (fRs2_fmt4a ..))
  | _ =>
    exact ignoredClear_of_opcode (by
      simp [HasIgnoredField, encode, fOpcode_fmt0, fOpcode_fmt1, fOpcode_fmt2, fOpcode_fmt3, fOpcode_fmt4a,
        fOpcode_fmt4b, fOpcode_fmt4c, fOpcode_fmt5a, fOpcode_fmt5b])

/-! ### The amounts of the scalar shifts -/

section ScalarShift
variable {s : State} {p : Pred} {rd rs1 : Reg} {k k' : BitVec 13} {f : BitVec s.xlen → Nat → BitVec s.xlen}

/-- An amount other than XLEN acts by its value modulo XLEN (R190). -/
theorem scalarShift_of_ne (hk : k.toNat ≠ s.xlen) :
    scalarShift p rd rs1 k s f = guarded p s (writeReg s rd (f (s.reg s.xlen rs1) (k.toNat % s.xlen))) := by
  rw [scalarShift, if_neg hk]

theorem scalarShift_congr (hmod : k.toNat % s.xlen = k'.toNat % s.xlen) (hk : k.toNat ≠ s.xlen)
    (hk' : k'.toNat ≠ s.xlen) : scalarShift p rd rs1 k s f = scalarShift p rd rs1 k' s f := by
  rw [scalarShift_of_ne hk, scalarShift_of_ne hk', hmod]

theorem scalarShift_xlen (hp : s.pred p = true) (hk : k.toNat = s.xlen) :
    scalarShift p rd rs1 k s f = unspecified .shiftByXlen := by
  rw [scalarShift, guarded_of_true _ hp, if_pos hk]

theorem scalarShift_completes (hp : s.pred p = true) (hk : k.toNat ≠ s.xlen) :
    ∃ t, scalarShift p rd rs1 k s f = .next t := by
  rw [scalarShift_of_ne hk, guarded_of_true _ hp]
  exact ⟨_, rfl⟩

end ScalarShift

theorem execShrp_congr {s : State} {p : Pred} {rd rs1 rs2 : Reg} {k k' : BitVec 8}
    (hmod : k.toNat % (2 * s.xlen) = k'.toNat % (2 * s.xlen)) :
    execShrp p rd rs1 rs2 k s = execShrp p rd rs1 rs2 k' s := by
  rw [execShrp, execShrp, hmod]

/-- Settles O5: the words by the decoder's lemmas, the encoder by `encode_ignoredClear`, the amounts by the lemmas about
`scalarShift`, of which slli, srli and srai are instances. -/
theorem ignoredFieldsHaveNoEffect : Obligations.IgnoredFieldsHaveNoEffect := by
  intro x p rd rs1 rs2 pa pb
  refine ⟨decode_trap_word x p, fun hi2 imm16 => ?loadi, fun imm8 => decode_testbit_word x p rd imm8 pa pb,
    decode_changepr_word x p, decode_notReg_word x p rd rs1 rs2, encode_ignoredClear,
    fun k => ⟨decode_slli_word x p rd rs1 k, decode_srli_word x p rd rs1 k, decode_srai_word x p rd rs1 k⟩,
    decode_shrp_word x p rd rs1 rs2, fun s => ⟨fun k k' hmod hk hk' => ?alike, fun k k' => execShrp_congr,
      fun hp k => ⟨fun hk => ?refused, fun hk => ?completes⟩⟩⟩
  case loadi =>
    have himm : (hi2 ++ imm16).setWidth 16 = imm16 := BitVec.setWidth_append_eq_right
    exact ⟨by rw [decode_loadiHi_word, himm], by rw [decode_loadiLo_word, himm]⟩
  case alike =>
    exact ⟨scalarShift_congr hmod hk hk', scalarShift_congr hmod hk hk', scalarShift_congr hmod hk hk'⟩
  case refused => exact ⟨scalarShift_xlen hp hk, scalarShift_xlen hp hk, scalarShift_xlen hp hk⟩
  case completes => exact ⟨scalarShift_completes hp hk, scalarShift_completes hp hk, scalarShift_completes hp hk⟩

end Sys2Proof.Machine
end

section
/-! PROOFS. How an instruction ends: a trap halts on the spot, a jump sets the pc, every other instruction advances it
(10_state.md section 3, 40_flow_control.md). -/

namespace Sys2Proof.Machine
open Sys2Proof

/-! ### The halted flag and the pc after any instruction -/

/-- An advance from a state that kept the pc and the configuration of s advances the pc of s. -/
theorem advancesPc_advance {s u : State} (hcfg : u.cfg = s.cfg) (hpc : u.pc = s.pc) : AdvancesPc s u.advance := by
  have hxlen : s.xlen = u.xlen := by rw [State.xlen, State.xlen, hcfg]
  have hpcv : u.pcv s.xlen = s.pcv s.xlen := by rw [State.pcv, State.pcv, hpc]
  rw [AdvancesPc, u.pcv_advance hxlen, hpcv]

/-- How an executed instruction can leave the halted flag and the pc: a trap sets the flag where it stands, a jump keeps
the flag, every other instruction ends by advancing a state that has the pc and the flag of s. -/
inductive Ending (i : Instr) (s : State) : State → Prop where
  | halts (hop : opcodeOf i = 0x03) : Ending i s s.halt
  | jumps {t : State} (hop : opcodeOf i ≠ 0x03) (hjump : IsJump i) (hhalted : t.halted = s.halted) : Ending i s t
  | advances {u : State} (hop : opcodeOf i ≠ 0x03) (hhalted : u.halted = s.halted) (hcfg : u.cfg = s.cfg)
      (hpc : u.pc = s.pc) : Ending i s u.advance

/-- Every shape of an executed instruction has one of the three endings. -/
theorem Executed.ending {i : Instr} {s t : State} (h : Executed i s t) : Ending i s t := by
  cases h with
  | trap hop => exact .halts hop
  | jump v hop | jumpLink v hop => exact .jumps (by omega) (by unfold IsJump; omega) (by simp)
  | compare b hop => exact .advances (by unfold IsCompare at hop; omega) (by simp) (by simp) (by simp)
  | changepr hop | changeprLd hop | write v hop => exact .advances (by omega) (by simp) (by simp) (by simp)
  | loadUpdate v hop => exact .advances (by unfold IsLoadUpdate at hop; omega) (by simp) (by simp) (by simp)
  | store u hop hlt hw | storeUpdate u hop hge hw =>
    obtain ⟨-, -, rfl⟩ := State.memWrite_ok hw
    exact .advances (by unfold IsStore at hop; omega) (by simp) (by simp) (by simp)

/-- Settles O16: a nullified instruction keeps the flag, and of the endings of an executed one only a trap's sets it. -/
theorem onlyTrapHalts : Obligations.OnlyTrapHalts := by
  intro i s t h
  cases exec_next h with
  | nullified hp ht =>
    by_cases hop : opcodeOf i = 0x03
    · simp [hop, hp, ht hop]
    · simp [hop]
  | executed hp hx =>
    cases hx.ending with
    | halts hop =>
      rcases hp with hp | ⟨-, hT⟩
      · simp [hop, hp]
      · simp [hop, hT]
    | jumps hop _ hhalted => simp [hop, hhalted]
    | advances hop hhalted => simp [hop, hhalted]

/-- Settles O19: a nullified instruction advances and is no executed trap; an executed one is a trap, a jump or ends by
advancing, and the first two are not among the instructions of the first clause. -/
theorem nonJumpsAdvanceThePc : Obligations.NonJumpsAdvanceThePc := by
  intro i s t h
  cases exec_next h with
  | nullified hp ht =>
    refine ⟨fun _ => advancesPc_advance rfl rfl, fun hop hexec => ?_⟩
    simp [hp, ht hop] at hexec
  | executed hp hx =>
    cases hx.ending with
    | halts hop =>
      refine ⟨fun hadv => ?_, fun _ _ => State.halt_pc s⟩
      rcases hadv with ⟨-, hne⟩ | ⟨hp0, hT⟩
      · exact absurd hop hne
      · simp [hp0, hT hop] at hp
    | jumps hop hjump =>
      refine ⟨fun hadv => ?_, fun hop3 => absurd hop3 hop⟩
      rcases hadv with ⟨hno, -⟩ | ⟨hp0, -⟩
      · exact absurd hjump hno
      · simp [hp0, hop] at hp
    | advances hop _ hcfg hpc => exact ⟨fun _ => advancesPc_advance hcfg hpc, fun hop3 => absurd hop3 hop⟩

end Sys2Proof.Machine
end

section
/-! PROOFS. The jumps and trap, executed: where each goes, and that nothing else changes (40_flow_control.md R120 to
R125). -/

namespace Sys2Proof.Machine
open Sys2Proof

/-! ### A displaced pc as a number modulo 2^N -/

theorem add_signExtend_eq_ofInt {N m : Nat} (a : BitVec N) (imm : BitVec m) :
    a + imm.signExtend N = BitVec.ofInt N (a.toNat + imm.toInt) := by
  rw [BitVec.ofInt_add, BitVec.ofInt_natCast, BitVec.ofNat_toNat, BitVec.setWidth_eq]
  rfl

/-! ### The next states of the jumps -/

/-- Setting the pc alone is a jump without a link (R121, R123). -/
theorem jumpsTo_setPc (s : State) (v : BitVec s.xlen) : JumpsTo s v false (.next (s.setPc v)) :=
  ⟨s.setPc v, rfl, s.pcv_setPc v s.xlen_le, fun r _ => by simp, ⟨rfl, rfl⟩, fun a => by simp, rfl, rfl⟩

/-- Writing pc + 4 to R31 and then setting the pc is a jump with a link (R122, R124). -/
theorem jumpsTo_setReg_setPc (s : State) (v : BitVec s.xlen) :
    JumpsTo s v true (.next ((s.setReg linkReg (s.pcv s.xlen + 4#s.xlen)).setPc v)) := by
  refine ⟨_, rfl, State.pcv_setPc _ v s.xlen_le, ⟨?link, fun r hr => ?others⟩, ⟨by simp, by simp⟩,
    fun a => by simp, by simp, by simp⟩
  case link => exact (s.reg_setReg_self linkReg _ s.xlen_le).trans (if_neg (by decide))
  case others => exact s.reg_setReg_of_ne _ _ (by simpa [linkReg] using hr)

/-! ### The arms, executed -/

section ExecutedArms
variable {s : State} {p : Pred} (hp : s.pred p = true)
include hp

theorem exec_jmp_of_true (imm23 : BitVec 23) :
    exec (.jmp p imm23) s = .next (s.setPc (s.pcv s.xlen + imm23.signExtend s.xlen)) :=
  guarded_of_true _ hp

theorem exec_jmpLink_of_true (imm23 : BitVec 23) :
    exec (.jmpLink p imm23) s
      = .next ((s.setReg linkReg (s.pcv s.xlen + 4#s.xlen)).setPc (s.pcv s.xlen + imm23.signExtend s.xlen)) :=
  guarded_of_true _ hp

theorem exec_jmpReg_of_true (rd : Reg) :
    exec (.jmpReg p rd) s = .next (s.setPc (s.pcv s.xlen + s.reg s.xlen rd)) :=
  guarded_of_true _ hp

theorem exec_jmpRegLink_of_ne {rd : Reg} (hrd : rd ≠ 31) :
    exec (.jmpRegLink p rd) s
      = .next ((s.setReg linkReg (s.pcv s.xlen + 4#s.xlen)).setPc (s.pcv s.xlen + s.reg s.xlen rd)) :=
  (guarded_of_true _ hp).trans (if_neg hrd)

theorem exec_jmpRegLink_linkReg : exec (.jmpRegLink p 31) s = .fault (.unspecifiedBehaviour .linkThroughR31) :=
  (guarded_of_true _ hp).trans (if_pos rfl)

end ExecutedArms

/-- A trap halts if its guard reads 1 or traps are not predicated (10_state.md R25 step 5). -/
theorem exec_trap_of_executed {s : State} {p : Pred} (h : s.pred p = true ∨ s.cfg.trapPredicated = false) :
    exec (.trap p) s = .next s.halt := by
  simp only [exec, execTrap]
  rcases h with hp | hT
  · rw [guarded_of_true _ hp, ite_self]
  · simp [hT]

/-- A predicated trap whose guard reads 0 is nullified. -/
theorem exec_trap_of_nullified {s : State} {p : Pred} (hp : s.pred p = false) (hT : s.cfg.trapPredicated = true) :
    exec (.trap p) s = .next s.advance :=
  (if_pos hT).trans (guarded_of_false _ hp)

/-! ### The obligations -/

/-- Settles O22: the arms as state updates, their target by `add_signExtend_eq_ofInt`. -/
theorem jumpResults : Obligations.JumpResults := by
  intro s p imm23 hp
  rw [exec_jmp_of_true hp, exec_jmpLink_of_true hp, ← add_signExtend_eq_ofInt]
  exact ⟨jumpsTo_setPc s _, jumpsTo_setReg_setPc s _⟩

/-- Settles O23: the arms as state updates, their target by `BitVec.add_def`; the refused register by its own arm. -/
theorem jumpRegisterResults : Obligations.JumpRegisterResults := by
  intro s p rd hp
  rw [← BitVec.add_def, exec_jmpReg_of_true hp]
  refine ⟨jumpsTo_setPc s _, fun hrd => ?linked, fun hrd => ?refused⟩
  case linked =>
    rw [exec_jmpRegLink_of_ne hp hrd]
    exact jumpsTo_setReg_setPc s _
  case refused =>
    rw [hrd]
    exact exec_jmpRegLink_linkReg hp

/-- Settles O24: an executed trap leaves `State.halt`, whose frame the laws of the state give; a nullified one
advances. -/
theorem trapResult : Obligations.TrapResult := by
  intro s p
  refine ⟨fun hexec => ?_, fun hp hT => ?_⟩
  · exact ⟨s.halt, exec_trap_of_executed hexec, rfl, rfl, fun r _ => State.halt_reg .., ⟨rfl, rfl⟩,
      fun a => State.halt_readByte .., rfl⟩
  · rw [exec_trap_of_nullified hp hT]
    exact onlyAdvances_advance s

end Sys2Proof.Machine
end

section
/-! PROOFS. The instructions that write predicates: cmp, cmpi, testbit, changepr and changepr.ld, executed and refused
(41_compare_predication.md). -/

namespace Sys2Proof.Machine
open Sys2Proof

/-! ### Predicate writes as state updates -/

/-- What predicate writes and an advance leave: every register, memory, the halted flag and the configuration. -/
theorem frame_advance_withPreds (s : State) (ps : Vector (BitVec 7) 16) (k : PredSet) :
    KeepsRegsBut [] s (s.withPreds ps k).advance ∧ KeepsMem s (s.withPreds ps k).advance
      ∧ KeepsRest s (s.withPreds ps k).advance ∧ AdvancesPc s (s.withPreds ps k).advance :=
  ⟨fun _ _ => rfl, fun _ => rfl, ⟨rfl, rfl⟩, advancesPc_advance rfl rfl⟩

/-- Making the active set active changes nothing. -/
theorem State.setAps_self (s : State) : s.setAps s.aps = s := rfl

/-- What every predicate of the active set reads after a load of the set: Pi takes bit i (R141). -/
theorem State.pred_loadPreds (s : State) (v : BitVec 8) (j : Pred) :
    (s.loadPreds v).pred j = (decide (j = 0) || v.getLsbD j.val) := by
  by_cases hj : j = 0
  · simp [hj]
  · have hpos : j.val ≠ 0 := fun e => hj (Fin.ext e)
    have hlt : j.val - 1 < 7 := by omega
    have hbit : 1 + (j.val - 1) = j.val := by omega
    simp [State.pred, hj, hlt, hbit]

/-- A load of the active set leaves the other sets. -/
theorem State.loadPreds_ps_of_ne (s : State) (v : BitVec 8) {k : PredSet} (h : k ≠ s.aps) :
    (s.loadPreds v).ps[k.val] = s.ps[k.val] :=
  Vector.getElem_set_ne s.aps.isLt k.isLt (fun e => h (Fin.ext e.symm))

/-! ### Pa and its complement Pb (R142) -/

/-- Writing Pa, then Pb, and advancing changes these two predicates and the pc alone. -/
theorem writesPredicates_finish (s : State) (pa pb : Pred) (b : Bool) :
    WritesPredicates s pa pb b (finish ((s.setPred pa b).setPred pb (!b))) := by
  refine ⟨_, rfl, fun i => ?reads, by simp, fun k hk => ?otherSets, ?frame⟩
  case reads =>
    rw [State.advance_pred, State.pred_setPred, State.pred_setPred]
    by_cases hi : i = 0 <;> simp [hi]
  case otherSets =>
    rw [State.advance_ps, State.setPred_ps_of_ne _ _ _ (by simpa using hk), State.setPred_ps_of_ne _ _ _ hk]
  case frame =>
    rw [State.setPred_eq_withPreds (s.setPred pa b), State.setPred_eq_withPreds s]
    exact frame_advance_withPreds s _ _

section ExecutedWrite
variable {s : State} {p pa pb : Pred} (hp : s.pred p = true)
include hp

theorem writesPredicates_writePreds (hne : pa = pb → pa = 0) (b : Bool) :
    WritesPredicates s pa pb b (writePreds p pa pb s b) := by
  have hmeant : ¬ (pa = pb ∧ pa ≠ 0) := fun ⟨heq, h0⟩ => h0 (hne heq)
  rw [writePreds, guarded_of_true _ hp, if_neg hmeant]
  exact writesPredicates_finish s pa pb b

theorem writePreds_same (heq : pa = pb) (h0 : pa ≠ 0) (b : Bool) :
    writePreds p pa pb s b = .fault (.unspecifiedBehaviour .cmpSamePredicate) := by
  rw [writePreds, guarded_of_true _ hp, if_pos ⟨heq, h0⟩]
  rfl

end ExecutedWrite

/-- Every cmp, cmpi and testbit is a write of its two destination fields. -/
theorem exec_eq_writePreds {i : Instr} (h : IsCompare i) (s : State) :
    ∃ b, exec i s = writePreds i.guardField (fPa (encode i)) (fPb (encode i)) s b := by
  cases i with
  | cmpEq | cmpNe | cmpLt | cmpLe | cmpGt | cmpGe | cmpLtu | cmpLeu | cmpGtu | cmpGeu =>
    rw [encode, fPa_fmt5a, fPb_fmt5a]
    exact ⟨_, rfl⟩
  | cmpiEq | cmpiNe | cmpiLt | cmpiLe | cmpiGt | cmpiGe | cmpiLtu | cmpiLeu | cmpiGtu | cmpiGeu | testbit =>
    rw [encode, fPa_fmt5b, fPb_fmt5b]
    exact ⟨_, rfl⟩
  | _ =>
    exact absurd h (by
      simp [IsCompare, opcodeOf, encode, fOpcode_fmt0, fOpcode_fmt1, fOpcode_fmt2, fOpcode_fmt3, fOpcode_fmt4a,
        fOpcode_fmt4b, fOpcode_fmt4c, fOpcode_fmt5b])

/-! ### The bit of testbit (R146) -/

theorem bitSelected_of_lt {N : Nat} (a : BitVec N) {imm8 : BitVec 8} (h : imm8.toNat < N) :
    bitSelected a imm8 = decide (a.toNat / 2 ^ imm8.toNat % 2 = 1) := by
  rw [bitSelected, if_pos h]
  exact Nat.testBit_eq_decide_div_mod_eq

theorem bitSelected_of_ge {N : Nat} (a : BitVec N) {imm8 : BitVec 8} (h : N ≤ imm8.toNat) :
    bitSelected a imm8 = false :=
  if_neg (Nat.not_lt.mpr h)

/-! ### The obligations -/

/-- Settles O25: the words by the decoder's lemma, the executed case by the state after `setAps`, whose sets are the old
ones; a nullified one advances. -/
theorem changeprResult : Obligations.ChangeprResult := by
  intro s p imm4
  refine ⟨fun imm8 => decode_changepr_word s.cfg.xlen p imm8 imm4, fun hp => ?executed, fun hp => ?nullified⟩
  case executed =>
    refine ⟨_, exec_changepr_of_true hp imm4, rfl, rfl, State.pred_zero _, fun hact j => ?sameSet, ?frame⟩
    case sameSet =>
      have hself : imm4.toFin = s.aps := Fin.ext hact.symm
      rw [State.advance_pred, hself, State.setAps_self]
    case frame => exact frame_advance_withPreds s s.ps imm4.toFin
  case nullified =>
    have hexec : exec (.changepr p imm4) s = .next s.advance := guarded_of_false _ hp
    rw [hexec]
    exact onlyAdvances_advance s

/-- Settles O26: the set made active is the one loaded, so `State.pred_loadPreds` gives its predicates. -/
theorem changeprLoadResult : Obligations.ChangeprLoadResult := by
  intro s p imm4 imm8 hp
  refine ⟨_, exec_changeprLd_of_true hp imm4 imm8, rfl, fun j => ?reads, fun k hk => ?otherSets, ?frame⟩
  case reads => rw [State.advance_pred, State.pred_loadPreds]
  case otherSets =>
    have hne : k ≠ (s.setAps imm4.toFin).aps := fun e => hk (congrArg Fin.val e)
    exact State.loadPreds_ps_of_ne _ imm8 hne
  case frame => exact frame_advance_withPreds s _ _

/-- Settles O27: every cmp is `compare` of its relation, a predicate write of the relation's truth value. -/
theorem compareResults : Obligations.CompareResults := by
  intro s p rs1 rs2 pa pb hp hne a b
  have hrel (r : Rel) : WritesPredicates s pa pb (relHolds r a b) (compare r p rs1 rs2 pa pb s) :=
    writesPredicates_writePreds hp hne _
  exact ⟨hrel .eq, hrel .ne, hrel .lt, hrel .le, hrel .gt, hrel .ge, hrel .ltu, hrel .leu, hrel .gtu, hrel .geu⟩

/-- Settles O28: as O27 for `compareImm`, whose second operand, the sign-extended imm8, is the integer it stands for. -/
theorem compareImmediateResults : Obligations.CompareImmediateResults := by
  intro s p rs1 imm8 pa pb hp hne a b
  have hrel (r : Rel) : WritesPredicates s pa pb (relHolds r a b) (compareImm r p rs1 imm8 pa pb s) :=
    writesPredicates_writePreds hp hne _
  exact ⟨hrel .eq, hrel .ne, hrel .lt, hrel .le, hrel .gt, hrel .ge, hrel .ltu, hrel .leu, hrel .gtu, hrel .geu⟩

/-- Settles O29: testbit writes `bitSelected`, which is the bit below XLEN and 0 from there. -/
theorem testBitResult : Obligations.TestBitResult := by
  intro s p rd imm8 pa pb hp hne
  have hwrite : WritesPredicates s pa pb (bitSelected (s.reg s.xlen rd) imm8) (exec (.testbit p rd imm8 pa pb) s) :=
    writesPredicates_writePreds hp hne _
  refine ⟨fun hlt => ?bit, fun hge => ?noBit⟩
  case bit => rwa [bitSelected_of_lt _ hlt] at hwrite
  case noBit => rwa [bitSelected_of_ge _ hge] at hwrite

/-- Settles O30: every compare is a write of its two fields, and that write refuses one register named twice. -/
theorem samePredicateHasNoMeaning : Obligations.SamePredicateHasNoMeaning := by
  intro i s hcmp hp heq h0
  obtain ⟨b, hexec⟩ := exec_eq_writePreds hcmp s
  rw [hexec]
  exact writePreds_same hp heq h0 b

end Sys2Proof.Machine
end

section
/-! PROOFS. Which registers an instruction can write: the destinations of its word (30_encoding.md section 3). -/

namespace Sys2Proof.Machine
open Sys2Proof

/-! ### The destinations of a word -/

/-- Rd of a form with a register destination. -/
theorem fRd_mem_destinations {w : IWord}
    (h : fOpcode w = 0x06 ∨ fOpcode w = 0x07 ∨ (0x0D ≤ fOpcode w ∧ fOpcode w ≤ 0x17) ∨ 0x20 ≤ fOpcode w) :
    fRd w ∈ destinations w := by
  simp [destinations, h]

/-- The base of an update form. -/
theorem fRs1_mem_destinations {w : IWord}
    (h : (0x14 ≤ fOpcode w ∧ fOpcode w ≤ 0x17) ∨ 0x1C ≤ fOpcode w ∧ fOpcode w ≤ 0x1F) :
    fRs1 w ∈ destinations w := by
  simp [destinations, h]

/-- R31 of a linking jump. -/
theorem linkReg_mem_destinations {w : IWord} (h : fOpcode w = 0x02 ∨ fOpcode w = 0x05) :
    linkReg ∈ destinations w := by
  simp [destinations, h, linkReg]

/-- A trap writes no register. -/
theorem destinations_of_trap {w : IWord} (h : fOpcode w = 0x03) : destinations w = [] := by
  simp [destinations, h]

/-! ### The frame of the registers -/

theorem KeepsRegsBut.setReg {l : List Reg} {s u : State} {r : Reg} (h : KeepsRegsBut l s u) (hr : r ∈ l) {N : Nat}
    (v : BitVec N) : KeepsRegsBut l s (u.setReg r v) := by
  intro q hq
  have hne : q ≠ r := fun e => hq (e ▸ hr)
  rw [u.reg_setReg_of_ne v _ hne, h q hq]

/-- A state with the registers of s. -/
theorem keepsRegsBut_of_gpr {s u : State} (l : List Reg) (h : u.gpr = s.gpr) : KeepsRegsBut l s u := by
  intro q _
  rw [State.reg, State.reg, h]

/-- A store writes no register. -/
theorem State.gpr_of_memWrite {s u : State} {N m : Nat} {ea : BitVec N} {n : Nat} {v : BitVec m}
    (h : s.memWrite ea n v = .ok u) : u.gpr = s.gpr := by
  obtain ⟨-, -, rfl⟩ := State.memWrite_ok h
  rfl

/-- The shapes of an executed instruction write only registers among the destinations of its word. -/
theorem Executed.keepsRegsBut_destinations {i : Instr} {s t : State} (h : Executed i s t) :
    KeepsRegsBut (destinations (encode i)) s t := by
  have hsame := keepsRegsBut_of_gpr (s := s) (destinations (encode i)) rfl
  cases h with
  | jump | trap | changepr | changeprLd => exact keepsRegsBut_of_gpr _ rfl
  | compare => exact keepsRegsBut_of_gpr _ (by simp)
  | jumpLink v hop => exact hsame.setReg (linkReg_mem_destinations hop) _
  | write v hop => exact hsame.setReg (fRd_mem_destinations (by unfold opcodeOf at hop; omega)) v
  | loadUpdate v hop =>
    have hrd : fRd (encode i) ∈ destinations (encode i) := fRd_mem_destinations (by
      unfold IsLoadUpdate opcodeOf at hop; omega)
    exact (hsame.setReg hrd v).setReg (fRs1_mem_destinations (.inl hop)) _
  | store u hop hlt hw => exact keepsRegsBut_of_gpr _ (u.advance_gpr.trans (State.gpr_of_memWrite hw))
  | storeUpdate u hop hge hw =>
    have hstored := keepsRegsBut_of_gpr (destinations (encode i)) (State.gpr_of_memWrite hw)
    exact hstored.setReg (fRs1_mem_destinations (.inr ⟨hge, hop.2⟩)) _

/-- Settles O18: by the shapes of the next states (`exec_next`); an executed instruction whose guard reads 0 is a trap,
which has no destination. -/
theorem registersChangeOnlyAtDestinations : Obligations.RegistersChangeOnlyAtDestinations := by
  intro i s t h
  cases exec_next h with
  | nullified => exact ⟨keepsRegsBut_of_gpr _ rfl, fun _ => keepsRegsBut_of_gpr _ rfl⟩
  | executed hp hx =>
    refine ⟨hx.keepsRegsBut_destinations, fun hp0 => ?_⟩
    have htrap : opcodeOf i = 0x03 := by simpa [hp0] using hp.imp_right And.left
    exact destinations_of_trap htrap ▸ hx.keepsRegsBut_destinations

end Sys2Proof.Machine
end

section
/-! PROOFS. The bytes of a data access and the value they spell, in either byte order (20_memory.md R52, R53), and the
state an admitted store leaves. -/

namespace Sys2Proof.Machine
open Sys2Proof

/-! ### The place of a byte in an access -/

theorem byteAddress_lt (o : ByteOrder) {n k : Nat} (hk : k < n) : byteAddress o 0 n k < n := by
  cases o <;> simp only [byteAddress] <;> omega

/-- The place of a byte counts from the address of the access. -/
theorem byteAddress_eq_add (o : ByteOrder) (a n k : Nat) : byteAddress o a n k = a + byteAddress o 0 n k := by
  cases o <;> simp [byteAddress]

/-! ### The bits of the number that bytes spell -/

theorem bytesToNatBig_lt (bs : List Byte) : bytesToNatBig bs < 2 ^ (8 * bs.length) := by
  induction bs with
  | nil => simp [bytesToNatBig]
  | cons b bs ih =>
    have hpow : 256 ^ bs.length = 2 ^ (8 * bs.length) := by rw [Nat.pow_mul]
    have hb : b.toNat * 2 ^ (8 * bs.length) ≤ 255 * 2 ^ (8 * bs.length) :=
      Nat.mul_le_mul_right _ (Nat.le_of_lt_succ b.isLt)
    rw [bytesToNatBig, hpow, List.length_cons, Nat.mul_succ, Nat.pow_add]
    omega

/-- Bit j of the byte of significance k: the first byte is the most significant. -/
theorem testBit_bytesToNatBig (bs : List Byte) {k j : Nat} (hk : k < bs.length) (hj : j < 8) :
    (bytesToNatBig bs).testBit (8 * k + j) = bs[bs.length - 1 - k].getLsbD j := by
  induction bs with
  | nil => simp at hk
  | cons b bs ih =>
    have hpow : b.toNat * 256 ^ bs.length = 2 ^ (8 * bs.length) * b.toNat := by rw [Nat.pow_mul, Nat.mul_comm]
    rw [bytesToNatBig, hpow, Nat.testBit_two_pow_mul_add _ (bytesToNatBig_lt bs)]
    by_cases htail : k < bs.length
    · rw [if_pos (by omega), ih htail]
      simp [List.getElem_cons, show ¬ bs.length - k = 0 by omega, show bs.length - k - 1 = bs.length - 1 - k by omega]
    · have hlast : k = bs.length := by simp at hk; omega
      rw [if_neg (by omega)]
      simp [hlast, BitVec.getLsbD]

/-- Bit j of the byte of significance k, in either byte order (R52). -/
theorem testBit_bytesToNat (o : ByteOrder) (bs : List Byte) {k j : Nat} (hk : k < bs.length) (hj : j < 8) :
    (bytesToNat o bs).testBit (8 * k + j) = (bs[byteAddress o 0 bs.length k]'(byteAddress_lt o hk)).getLsbD j := by
  cases o with
  | big =>
    rw [bytesToNat, testBit_bytesToNatBig bs hk hj]
    simp [byteAddress]
  | little =>
    rw [bytesToNat, testBit_bytesToNatBig bs.reverse (by simpa using hk) hj]
    simp [byteAddress, show bs.length - 1 - (bs.length - 1 - k) = k by omega]

/-- The byte of significance k of a stored value (R53). -/
theorem getElem_valueBytes_byteAddress (o : ByteOrder) {m : Nat} (v : BitVec m) {n k : Nat} (hk : k < n) :
    (valueBytes o v n)[byteAddress o 0 n k]'(by simpa using byteAddress_lt o hk) = v.extractLsb' (8 * k) 8 := by
  rw [getElem_valueBytes]
  cases o <;> simp only [byteAddress]
  · rw [show n - 1 - (0 + (n - 1 - k)) = k by omega]
  · rw [Nat.zero_add]

/-! ### The value of an admitted load -/

/-- The register value that loading n bytes from `a` gives (42_memory_access.md R163). -/
def State.loadedValue (s : State) (a n : Nat) : BitVec s.xlen :=
  extendLoaded s.cfg.loadExtend s.xlen (BitVec.ofNat (8 * n) (bytesToNat s.cfg.byteOrder (s.loadBytes a n)))

theorem State.memRead_of_admitted {s : State} {N : Nat} {ea : BitVec N} {n : Nat} (h : Admitted s.cfg ea.toNat n) :
    s.memRead ea n = .ok (BitVec.ofNat (8 * n) (bytesToNat s.cfg.byteOrder (s.loadBytes ea.toNat n))) := by
  rw [State.memRead, (accessFault?_none s.cfg ea n).mpr h]

/-- Bit i of the number that the bytes of an access spell. -/
theorem State.getLsbD_loadBytes (s : State) (a : Nat) {n i : Nat} (hi : i < 8 * n) :
    (BitVec.ofNat (8 * n) (bytesToNat s.cfg.byteOrder (s.loadBytes a n))).getLsbD i
      = (s.loadByte (byteAddress s.cfg.byteOrder a n (i / 8))).getLsbD (i % 8) := by
  have hk : i / 8 < (s.loadBytes a n).length := by rw [s.length_loadBytes]; omega
  have hbit := testBit_bytesToNat s.cfg.byteOrder (s.loadBytes a n) hk (Nat.mod_lt i (by omega : 0 < 8))
  rw [Nat.div_add_mod, s.getElem_loadBytes, s.length_loadBytes, ← byteAddress_eq_add] at hbit
  rw [BitVec.getLsbD_ofNat, hbit, decide_eq_true hi, Bool.true_and]

theorem getLsbD_extendLoaded_of_lt (e : LoadExtend) {N m i : Nat} (v : BitVec m) (hi : i < N) (hm : i < m) :
    (extendLoaded e N v).getLsbD i = v.getLsbD i := by
  cases e with
  | zero => rw [extendLoaded, BitVec.getLsbD_setWidth, decide_eq_true hi, Bool.true_and]
  | sign => rw [extendLoaded, BitVec.getLsbD_signExtend, decide_eq_true hi, Bool.true_and, if_pos hm]

/-- The bits above a loaded value are zeros or copies of its top bit (R163). -/
theorem getLsbD_extendLoaded_of_ge (e : LoadExtend) {N m i : Nat} (v : BitVec m) (hi : i < N) (hm : m ≤ i) :
    (extendLoaded e N v).getLsbD i = (decide (e = .sign) && v.getLsbD (m - 1)) := by
  cases e with
  | zero => rw [extendLoaded, BitVec.getLsbD_setWidth, BitVec.getLsbD_of_ge v i hm, Bool.and_false]; rfl
  | sign =>
    rw [extendLoaded, BitVec.getLsbD_signExtend, decide_eq_true hi, if_neg (Nat.not_lt.mpr hm),
      BitVec.msb_eq_getLsbD_last]
    rfl

/-- The bits of a loaded value are the bits of its bytes, extended as LOAD_EXTEND says. -/
theorem State.getLsbD_loadedValue (s : State) (a : Nat) {n i : Nat} (hn : 0 < n) (hi : i < s.xlen) :
    (s.loadedValue a n).getLsbD i = loadedBit s a n i := by
  rw [State.loadedValue, loadedBit]
  by_cases hlow : i < 8 * n
  · rw [getLsbD_extendLoaded_of_lt _ _ hi hlow, s.getLsbD_loadBytes a hlow, if_pos hlow]
  · have hlast : (8 * n - 1) / 8 = n - 1 := by omega
    have htop : (8 * n - 1) % 8 = 7 := by omega
    rw [getLsbD_extendLoaded_of_ge _ _ hi (by omega), s.getLsbD_loadBytes a (by omega), if_neg hlow, hlast, htop]
    cases s.cfg.loadExtend <;> rfl

/-! ### The state after an admitted store -/

/-- The state with the low n bytes of a value written from `a` up in BYTE_ORDER (20_memory.md R53). -/
def State.storeBytes (s : State) (a n : Nat) {m : Nat} (v : BitVec m) : State :=
  { s with mem := Memory.writeBytes s.mem a (valueBytes s.cfg.byteOrder v n) }

theorem State.memWrite_of_admitted {s : State} {N m : Nat} {ea : BitVec N} {n : Nat} (v : BitVec m)
    (h : Admitted s.cfg ea.toNat n) (htext : OutsideText s.cfg ea.toNat n) :
    s.memWrite ea n v = .ok (s.storeBytes ea.toNat n v) := by
  rw [State.memWrite, (accessFault?_none s.cfg ea n).mpr h]
  dsimp only
  rw [(touchesText_false s.cfg ea.toNat n).mpr htext]
  rfl

section StoreBytes
variable (s : State) (a n : Nat) {m : Nat} (v : BitVec m)

@[simp] theorem State.storeBytes_cfg : (s.storeBytes a n v).cfg = s.cfg := rfl
@[simp] theorem State.storeBytes_gpr : (s.storeBytes a n v).gpr = s.gpr := rfl
@[simp] theorem State.storeBytes_pc : (s.storeBytes a n v).pc = s.pc := rfl
@[simp] theorem State.storeBytes_ps : (s.storeBytes a n v).ps = s.ps := rfl
@[simp] theorem State.storeBytes_aps : (s.storeBytes a n v).aps = s.aps := rfl
@[simp] theorem State.storeBytes_halted : (s.storeBytes a n v).halted = s.halted := rfl

/-- The byte of significance k of the value stored stands at its place in the access. -/
theorem State.readByte_storeBytes {k : Nat} (hk : k < n) :
    (s.storeBytes a n v).readByte (byteAddress s.cfg.byteOrder a n k) = some (v.extractLsb' (8 * k) 8) := by
  have hin : byteAddress s.cfg.byteOrder 0 n k < (valueBytes s.cfg.byteOrder v n).length := by
    simpa using byteAddress_lt _ hk
  rw [State.readByte, byteAddress_eq_add, ← getElem_valueBytes_byteAddress _ v hk]
  exact Memory.read_writeBytes_inside _ s.mem a _ hin

theorem State.readByte_storeBytes_outside {b : Nat} (hb : b < a ∨ a + n ≤ b) :
    (s.storeBytes a n v).readByte b = s.readByte b :=
  Memory.read_writeBytes_outside _ s.mem a b (by simpa using hb)

/-- The low bytes of a value stored are the low bits loaded back. -/
theorem State.loadedBit_storeBytes {i : Nat} (hi : i < 8 * n) :
    loadedBit (s.storeBytes a n v) a n i = v.getLsbD i := by
  have hbyte := s.readByte_storeBytes a n v (show i / 8 < n by omega)
  have hpos : 8 * (i / 8) + i % 8 = i := Nat.div_add_mod i 8
  simp [loadedBit, hi, State.loadByte, hbyte, hpos, show i % 8 < 8 by omega]

end StoreBytes

end Sys2Proof.Machine
end

section
/-! PROOFS. The loads and stores, executed (42_memory_access.md R164 to R167). -/

namespace Sys2Proof.Machine
open Sys2Proof

/-! ### Admitted accesses as state updates -/

section Executed
variable {s : State} {p : Pred} {rd rs1 : Reg} {imm13 : BitVec 13} {n : Nat} (hp : s.pred p = true)
  (hfit : 8 * n ≤ s.xlen) (hadm : Admitted s.cfg (s.effectiveAddress rs1 imm13).toNat n)
include hp hfit hadm

theorem load_of_admitted :
    load n p rd rs1 imm13 s = writeReg s rd (s.loadedValue (s.effectiveAddress rs1 imm13).toNat n) := by
  rw [load, sized_of_le _ hfit, guarded_of_true _ hp, State.memRead_of_admitted hadm]
  rfl

theorem loadUpdate_of_admitted (hne : rd = rs1 → rd = 0) :
    loadUpdate n p rd rs1 imm13 s
      = writeReg (s.setReg rd (s.loadedValue (s.effectiveAddress rs1 imm13).toNat n)) rs1
          (s.effectiveAddress rs1 imm13) := by
  have hmeant : ¬ (rd = rs1 ∧ rd ≠ 0) := fun ⟨heq, h0⟩ => h0 (hne heq)
  rw [loadUpdate, sized_of_le _ hfit, guarded_of_true _ hp, if_neg hmeant, State.memRead_of_admitted hadm]
  rfl

variable (htext : OutsideText s.cfg (s.effectiveAddress rs1 imm13).toNat n)
include htext

theorem store_of_admitted :
    store n p rd rs1 imm13 s
      = finish (s.storeBytes (s.effectiveAddress rs1 imm13).toNat n (s.reg s.xlen rd)) := by
  rw [store, sized_of_le _ hfit, guarded_of_true _ hp, State.memWrite_of_admitted _ hadm htext]

theorem storeUpdate_of_admitted :
    storeUpdate n p rd rs1 imm13 s
      = writeReg (s.storeBytes (s.effectiveAddress rs1 imm13).toNat n (s.reg s.xlen rd)) rs1
          (s.effectiveAddress rs1 imm13) := by
  rw [storeUpdate, sized_of_le _ hfit, guarded_of_true _ hp, State.memWrite_of_admitted _ hadm htext]

end Executed

/-! ### What each update changes and keeps -/

/-- The bits of a register other than R0 after a loaded value was written to it. -/
theorem State.getLsbD_setReg_loadedValue (s : State) (a : Nat) {rd : Reg} {n i : Nat} (hrd : rd ≠ 0) (hn : 0 < n)
    (hi : i < s.xlen) : ((s.setReg rd (s.loadedValue a n)).reg s.xlen rd).getLsbD i = loadedBit s a n i := by
  rw [s.reg_setReg_self rd _ s.xlen_le, if_neg hrd, s.getLsbD_loadedValue a hn hi]

section Results
variable (s : State) (a : Nat) {n : Nat} (rd rs1 : Reg) (ea v : BitVec s.xlen)

/-- Writing a loaded value, then the base, changes these two registers and the pc alone. -/
theorem loadsAndUpdates_writeReg (hn : 0 < n) (hne : rd = rs1 → rd = 0) :
    LoadsAndUpdates s a n rd rs1 ea (writeReg (s.setReg rd (s.loadedValue a n)) rs1 ea) := by
  refine ⟨_, rfl, fun i hi => ?loaded, ?base, ?others, ⟨by simp, by simp⟩, fun b => by simp, ⟨by simp, by simp⟩,
    advancesPc_advance (by simp) (by simp)⟩
  case loaded =>
    rw [State.advance_reg]
    by_cases h0 : rd = 0
    · simp [h0]
    · rw [State.reg_setReg_of_ne _ _ _ (fun e => h0 (hne e)),
        s.getLsbD_setReg_loadedValue a h0 hn hi, decide_eq_true h0, Bool.true_and]
  case base => rw [State.advance_reg, State.reg_setReg_self _ rs1 ea s.xlen_le]
  case others =>
    have hsame := keepsRegsBut_of_gpr (s := s) [rd, rs1] rfl
    exact (hsame.setReg (by simp) _).setReg (by simp) ea

theorem storesOnly_finish : StoresOnly s a n v (finish (s.storeBytes a n v)) :=
  ⟨_, rfl, fun _ => s.readByte_storeBytes a n v, fun _ => s.readByte_storeBytes_outside a n v,
    keepsRegsBut_of_gpr _ rfl, ⟨rfl, rfl⟩, ⟨rfl, rfl⟩, advancesPc_advance rfl rfl⟩

/-- Writing the bytes, then the base, changes the base on top of the store. -/
theorem storesAndUpdates_writeReg :
    StoresAndUpdates s a n v rs1 ea (writeReg (s.storeBytes a n v) rs1 ea) := by
  refine ⟨_, rfl, fun k hk => ?bytes, fun b hb => ?otherBytes, ?base, ?others, ⟨by simp, by simp⟩, ⟨by simp, by simp⟩,
    advancesPc_advance (by simp) (by simp)⟩
  case bytes => rw [State.advance_readByte, State.setReg_readByte, s.readByte_storeBytes a n v hk]
  case otherBytes => rw [State.advance_readByte, State.setReg_readByte, s.readByte_storeBytes_outside a n v hb]
  case base => rw [State.advance_reg, State.reg_setReg_self _ rs1 ea s.xlen_le]
  case others =>
    have hstored : KeepsRegsBut [rs1] s (s.storeBytes a n v) := keepsRegsBut_of_gpr _ rfl
    exact hstored.setReg (by simp) ea

end Results

/-- A store and then a load of the same size, base and displacement complete, and the register loaded has the low bits
of the register stored. -/
theorem store_load_low_bits {s : State} {p : Pred} {rs rd rs1 : Reg} {imm13 : BitVec 13} {n : Nat}
    (hp : s.pred p = true) (hrd : rd ≠ 0) (hn : 0 < n) (hfit : 8 * n ≤ s.xlen)
    (hadm : Admitted s.cfg (s.effectiveAddress rs1 imm13).toNat n)
    (htext : OutsideText s.cfg (s.effectiveAddress rs1 imm13).toNat n) :
    ∃ t u, store n p rs rs1 imm13 s = .next t ∧ load n p rd rs1 imm13 t = .next u
      ∧ ∀ i, i < 8 * n → (u.reg s.xlen rd).getLsbD i = (s.reg s.xlen rs).getLsbD i := by
  refine ⟨_, _, store_of_admitted hp hfit hadm htext,
    load_of_admitted (s := (s.storeBytes _ n (s.reg s.xlen rs)).advance) hp hfit hadm, fun i hi => ?_⟩
  have hloaded := State.getLsbD_setReg_loadedValue (s.storeBytes (s.effectiveAddress rs1 imm13).toNat n
    (s.reg s.xlen rs)).advance (s.effectiveAddress rs1 imm13).toNat hrd hn (Nat.lt_of_lt_of_le hi hfit)
  exact hloaded.trans (s.loadedBit_storeBytes _ n _ hi)

/-! ### The sizes that exist (30_encoding.md R105) -/

theorem State.bits_le_xlen (s : State) {n : Nat} (hn : n ≤ 4) : 8 * n ≤ s.xlen := by
  have := s.xlen_ge
  omega

theorem State.bits_le_xlen_of_x64 {s : State} (h : s.cfg.xlen = .x64) : 8 * 8 ≤ s.xlen := by
  rw [State.xlen, h]
  rfl

/-! ### The obligations -/

/-- Settles O34: each size is `loadUpdate`, which for an admitted access writes the loaded value and then the base. -/
theorem loadUpdateResults : Obligations.LoadUpdateResults := by
  intro s p rd rs1 imm13 hp hne ea
  have hload (n : Nat) (hn : 0 < n) (hfit : 8 * n ≤ s.xlen) (hadm : Admitted s.cfg ea.toNat n) :
      LoadsAndUpdates s ea.toNat n rd rs1 ea (loadUpdate n p rd rs1 imm13 s) := by
    rw [loadUpdate_of_admitted hp hfit hadm hne]
    exact loadsAndUpdates_writeReg s ea.toNat rd rs1 ea hn hne
  exact ⟨hload 1 (by decide) (s.bits_le_xlen (by decide)), hload 2 (by decide) (s.bits_le_xlen (by decide)),
    hload 4 (by decide) (s.bits_le_xlen (by decide)), fun h => hload 8 (by decide) (State.bits_le_xlen_of_x64 h)⟩

/-- Settles O35: each size is `store`, which for an admitted access outside TEXT writes the bytes and advances. -/
theorem storeResults : Obligations.StoreResults := by
  intro s p rd rs1 imm13 hp a
  have hstore (n : Nat) (hfit : 8 * n ≤ s.xlen) (hadm : Admitted s.cfg a n) (htext : OutsideText s.cfg a n) :
      StoresOnly s a n (s.reg s.xlen rd) (store n p rd rs1 imm13 s) := by
    rw [store_of_admitted hp hfit hadm htext]
    exact storesOnly_finish s a _
  exact ⟨hstore 1 (s.bits_le_xlen (by decide)), hstore 2 (s.bits_le_xlen (by decide)),
    hstore 4 (s.bits_le_xlen (by decide)), fun h => hstore 8 (State.bits_le_xlen_of_x64 h)⟩

/-- Settles O36: each size is `storeUpdate`, which takes address and value in the state before the store. -/
theorem storeUpdateResults : Obligations.StoreUpdateResults := by
  intro s p rd rs1 imm13 hp ea
  have hstore (n : Nat) (hfit : 8 * n ≤ s.xlen) (hadm : Admitted s.cfg ea.toNat n)
      (htext : OutsideText s.cfg ea.toNat n) :
      StoresAndUpdates s ea.toNat n (s.reg s.xlen rd) rs1 ea (storeUpdate n p rd rs1 imm13 s) := by
    rw [storeUpdate_of_admitted hp hfit hadm htext]
    exact storesAndUpdates_writeReg s ea.toNat rs1 ea _
  exact ⟨hstore 1 (s.bits_le_xlen (by decide)), hstore 2 (s.bits_le_xlen (by decide)),
    hstore 4 (s.bits_le_xlen (by decide)), fun h => hstore 8 (State.bits_le_xlen_of_x64 h)⟩

/-- Settles O38: `store_load_low_bits` at each size. -/
theorem storeThenLoadReturnsValue : Obligations.StoreThenLoadReturnsValue := by
  intro s p rs rd rs1 imm13 hp hrd a
  exact ⟨store_load_low_bits hp hrd (by decide) (s.bits_le_xlen (by decide)),
    store_load_low_bits hp hrd (by decide) (s.bits_le_xlen (by decide)),
    store_load_low_bits hp hrd (by decide) (s.bits_le_xlen (by decide)),
    fun h => store_load_low_bits hp hrd (by decide) (State.bits_le_xlen_of_x64 h)⟩

end Sys2Proof.Machine
end

section
/-! PROOFS. The ALU instructions with immediate, decoded and executed (43_alu_immediate.md R180 to R185): the arithmetic
forms as integers modulo 2^XLEN, the logical forms bit by bit. -/

namespace Sys2Proof.Machine
open Sys2Proof

/-! ### Guarded writes of one register -/

section ExecutedWrite
variable {s : State} {p : Pred} (hp : s.pred p = true) (rd : Reg) (v : BitVec s.xlen)
include hp

theorem writesOnly_guarded_writeReg : WritesOnly s rd v (guarded p s (writeReg s rd v)) := by
  rw [guarded_of_true _ hp]
  exact writesOnly_writeReg s rd v

theorem writesBits_guarded_writeReg {B : Nat → Bool} (hB : ∀ i, i < s.xlen → v.getLsbD i = B i) :
    WritesBits s rd B (guarded p s (writeReg s rd v)) :=
  ⟨v, writesOnly_guarded_writeReg hp rd v, hB⟩

end ExecutedWrite

/-! ### Sign-extended and zero-extended immediates (R180) -/

section Immediates
variable {N m : Nat} (a : BitVec N) (imm : BitVec m)

theorem addSext_eq_ofInt : addSext a imm = BitVec.ofInt N (a.toInt + imm.toInt) := by
  rw [BitVec.ofInt_add, BitVec.ofInt_toInt]
  rfl

theorem sub_signExtend_eq_ofInt : a - imm.signExtend N = BitVec.ofInt N (a.toInt - imm.toInt) := by
  rw [Int.sub_eq_add_neg, BitVec.ofInt_add, BitVec.ofInt_neg, BitVec.ofInt_toInt, BitVec.sub_eq_add_neg]
  rfl

/-- A zero-extended immediate has the bits of the immediate in the register. -/
theorem getLsbD_setWidth_of_lt {i : Nat} (hi : i < N) : (imm.setWidth N).getLsbD i = imm.getLsbD i := by
  rw [BitVec.getLsbD_setWidth, decide_eq_true hi, Bool.true_and]

end Immediates

/-! ### The words of the logical forms (30_encoding.md R87) -/

theorem decode_andi_word (x : Xlen) (p : Pred) (rd rs1 : Reg) (imm13 : BitVec 13) :
    decode x (word2 0b100010 p rd rs1 imm13) = .ok (.andi p rd rs1 imm13) := by
  simp [word2_eq_fmt2, decode, fOpcode_fmt2, fP_fmt2, fRd_fmt2, fRs1_fmt2, fImm13_fmt2]

theorem decode_ori_word (x : Xlen) (p : Pred) (rd rs1 : Reg) (imm13 : BitVec 13) :
    decode x (word2 0b100011 p rd rs1 imm13) = .ok (.ori p rd rs1 imm13) := by
  simp [word2_eq_fmt2, decode, fOpcode_fmt2, fP_fmt2, fRd_fmt2, fRs1_fmt2, fImm13_fmt2]

theorem decode_xori_word (x : Xlen) (p : Pred) (rd rs1 : Reg) (imm13 : BitVec 13) :
    decode x (word2 0b100100 p rd rs1 imm13) = .ok (.xori p rd rs1 imm13) := by
  simp [word2_eq_fmt2, decode, fOpcode_fmt2, fP_fmt2, fRd_fmt2, fRs1_fmt2, fImm13_fmt2]

/-! ### The obligations -/

/-- Settles O39: both arms are guarded writes, of the modular sum and difference as integers. -/
theorem addSubImmediateResults : Obligations.AddSubImmediateResults := by
  intro s p rd rs1 imm13 hp
  rw [← addSext_eq_ofInt, ← sub_signExtend_eq_ofInt]
  exact ⟨writesOnly_guarded_writeReg hp rd _, writesOnly_guarded_writeReg hp rd _⟩

/-- Settles O40: the words by the decoder's lemmas; the arms are guarded writes, whose bits are those of the operation on
the register and the zero-extended immediate. -/
theorem logicalImmediateResults : Obligations.LogicalImmediateResults := by
  intro s p rd rs1 imm13 a
  refine ⟨decode_andi_word _ p rd rs1 imm13, decode_ori_word _ p rd rs1 imm13, decode_xori_word _ p rd rs1 imm13,
    fun hp => ⟨writesBits_guarded_writeReg hp rd _ fun i hi => ?and, writesBits_guarded_writeReg hp rd _ fun i hi => ?or,
      writesBits_guarded_writeReg hp rd _ fun i hi => ?xor⟩⟩
  case and => rw [BitVec.getLsbD_and, getLsbD_setWidth_of_lt imm13 hi]
  case or => rw [BitVec.getLsbD_or, getLsbD_setWidth_of_lt imm13 hi]
  case xor => rw [BitVec.getLsbD_xor, getLsbD_setWidth_of_lt imm13 hi, Bool.bne_eq_xor]

end Sys2Proof.Machine
end

section
/-! PROOFS. The scalar shifts and the bit fields, executed and refused (44_shift_bitfield.md R190 to R196): the bits of
a shifted, extracted or deposited value at any width, and the arms as guarded writes of such values. -/

namespace Sys2Proof.Machine
open Sys2Proof

/-! ### The bits of a shifted value, at any width -/

section ShiftedBits
variable {N : Nat} (a : BitVec N) (k : Nat)

/-- Zeros enter (R193) because a value reads 0 from its width up. -/
theorem getLsbD_ushiftRight_eq_rightBit (i : Nat) : (a >>> k).getLsbD i = rightBit a k i := by
  rw [BitVec.getLsbD_ushiftRight, rightBit, Nat.add_comm k i]
  by_cases hin : i + k < N
  case pos => rw [decide_eq_true hin, Bool.true_and]
  case neg => rw [decide_eq_false hin, Bool.false_and, BitVec.getLsbD_of_ge a _ (Nat.not_lt.mp hin)]

variable {i : Nat} (hi : i < N)
include hi

/-- Zeros enter below bit k (R191). -/
theorem getLsbD_shiftLeft_eq_leftBit : (a <<< k).getLsbD i = leftBit a k i := by
  rw [BitVec.getLsbD_shiftLeft, leftBit, decide_eq_true hi, Bool.true_and, ← decide_not]
  simp only [Nat.not_lt]

/-- Copies of the top bit enter (R192): past it, `arithBit` and the shifted value both read bit N - 1. -/
theorem getLsbD_sshiftRight_eq_arithBit : (a.sshiftRight k).getLsbD i = arithBit a k i := by
  rw [BitVec.getLsbD_sshiftRight, arithBit, decide_eq_false (Nat.not_le.mpr hi), Bool.not_false, Bool.true_and]
  split
  next hin => rw [Nat.min_eq_left (by omega), Nat.add_comm]
  next hout => rw [Nat.min_eq_right (by omega), BitVec.msb_eq_getLsbD_last]

/-- A pair joined with `a` high and shifted right (R194): its low half takes bits of `b` up to bit N and of `a` from
there. -/
theorem getLsbD_pair_ushiftRight (b : BitVec N) :
    (((a ++ b) >>> k).setWidth N).getLsbD i = if i + k < N then b.getLsbD (i + k) else a.getLsbD (i + k - N) := by
  rw [BitVec.getLsbD_setWidth, decide_eq_true hi, Bool.true_and, BitVec.getLsbD_ushiftRight, BitVec.getLsbD_append,
    Nat.add_comm k i]

end ShiftedBits

/-! ### The bits of an extracted and of a deposited field, at any width -/

section FieldBits
variable {N : Nat} {pos len i : Nat} (hi : i < N)
include hi

theorem getLsbD_extractBits (v : BitVec N) :
    (extractBits v pos len).getLsbD i = (decide (i < len) && v.getLsbD (pos + i)) := by
  rw [extractBits, BitVec.getLsbD_setWidth, decide_eq_true hi, Bool.true_and, BitVec.getLsbD_extractLsb']

/-- The mask of a field is the bits of the field. -/
theorem getLsbD_fieldMask (hlen : len ≤ N) :
    ((BitVec.allOnes N >>> (N - len)) <<< pos).getLsbD i = decide (pos ≤ i ∧ i < pos + len) := by
  rw [BitVec.getLsbD_shiftLeft, BitVec.getLsbD_ushiftRight, BitVec.getLsbD_allOnes, decide_eq_true hi, Bool.true_and,
    ← decide_not, ← Bool.decide_and]
  exact decide_eq_decide.mpr (by omega)

theorem getLsbD_depositBits (v u : BitVec N) (hlen : len ≤ N) :
    (depositBits v u pos len).getLsbD i = if pos ≤ i ∧ i < pos + len then u.getLsbD (i - pos) else v.getLsbD i := by
  simp only [depositBits, BitVec.getLsbD_or, BitVec.getLsbD_and, BitVec.getLsbD_not, getLsbD_fieldMask hi hlen,
    getLsbD_shiftLeft_eq_leftBit u pos hi, leftBit, decide_eq_true hi]
  split
  next hin => simp [hin]
  next hout => simp [hout]

end FieldBits

/-! ### The fields that have a meaning (D19) -/

theorem fieldOutOfRange_iff {N : Nat} {imm7 : BitVec 7} {imm6 : BitVec 6} :
    fieldOutOfRange N imm7 imm6 = true ↔ imm6.toNat = 0 ∨ N < imm7.toNat + imm6.toNat := by
  rw [fieldOutOfRange, Bool.or_eq_true, decide_eq_true_iff, decide_eq_true_iff]

/-! ### The arms, executed -/

section ExecutedArms
variable {s : State} {p : Pred} (hp : s.pred p = true) {rd rs1 : Reg}
include hp

/-- A shift by an amount other than XLEN writes the bits of the shifted register (R190). -/
theorem writesBits_scalarShift {imm13 : BitVec 13} {f : BitVec s.xlen → Nat → BitVec s.xlen} {B : Nat → Bool}
    (hk : imm13.toNat ≠ s.xlen)
    (hB : ∀ i, i < s.xlen → (f (s.reg s.xlen rs1) (imm13.toNat % s.xlen)).getLsbD i = B i) :
    WritesBits s rd B (scalarShift p rd rs1 imm13 s f) := by
  rw [scalarShift_of_ne hk]
  exact writesBits_guarded_writeReg hp rd _ hB

variable {imm7 : BitVec 7} {imm6 : BitVec 6}

theorem writesBits_execExtract (h : ¬ fieldOutOfRange s.xlen imm7 imm6 = true) :
    WritesBits s rd (fun i => decide (i < imm6.toNat) && (s.reg s.xlen rs1).getLsbD (imm7.toNat + i))
      (execExtract p rd rs1 imm7 imm6 s) := by
  rw [execExtract, if_neg h]
  exact writesBits_guarded_writeReg hp rd _ fun i hi => getLsbD_extractBits hi _

theorem writesBits_execDeposit (h : ¬ fieldOutOfRange s.xlen imm7 imm6 = true) :
    WritesBits s rd
      (fun i => if imm7.toNat ≤ i ∧ i < imm7.toNat + imm6.toNat then (s.reg s.xlen rs1).getLsbD (i - imm7.toNat)
        else (s.reg s.xlen rd).getLsbD i)
      (execDeposit p rd rs1 imm7 imm6 s) := by
  have hlen : imm6.toNat ≤ s.xlen := by rw [fieldOutOfRange_iff] at h; omega
  rw [execDeposit, if_neg h]
  exact writesBits_guarded_writeReg hp rd _ fun i hi => getLsbD_depositBits hi _ _ hlen

theorem execExtract_of_outOfRange (h : fieldOutOfRange s.xlen imm7 imm6 = true) :
    execExtract p rd rs1 imm7 imm6 s = .fault (.unspecifiedBehaviour .bitfieldRange) := by
  rw [execExtract, guarded_of_true _ hp, if_pos h, unspecified]

theorem execDeposit_of_outOfRange (h : fieldOutOfRange s.xlen imm7 imm6 = true) :
    execDeposit p rd rs1 imm7 imm6 s = .fault (.unspecifiedBehaviour .bitfieldRange) := by
  rw [execDeposit, guarded_of_true _ hp, if_pos h, unspecified]

end ExecutedArms

/-! ### The obligations -/

/-- Settles O41: the three arms are `scalarShift` of the three shifts, whose bits are those of the statement. -/
theorem scalarShiftResults : Obligations.ScalarShiftResults := by
  intro s p rd rs1 imm13 hp a k
  refine ⟨fun hk => ⟨?left, ?right, ?arith⟩, fun hk => ?refused⟩
  case left => exact writesBits_scalarShift hp hk fun i hi => getLsbD_shiftLeft_eq_leftBit a k hi
  case right => exact writesBits_scalarShift hp hk fun i _ => getLsbD_ushiftRight_eq_rightBit a k i
  case arith => exact writesBits_scalarShift hp hk fun i hi => getLsbD_sshiftRight_eq_arithBit a k hi
  case refused => exact ⟨scalarShift_xlen hp hk, scalarShift_xlen hp hk, scalarShift_xlen hp hk⟩

/-- Settles O42: the arm is a guarded write of the low half of the shifted pair. -/
theorem shiftRightPairResult : Obligations.ShiftRightPairResult := by
  intro s p rd rs1 rs2 imm8 hp k
  exact writesBits_guarded_writeReg hp rd _ fun i hi =>
    getLsbD_pair_ushiftRight (s.reg s.xlen rs1) k hi (s.reg s.xlen rs2)

/-- Settles O43: in range both arms are guarded writes, of the extracted and of the deposited field; out of range both
refuse. -/
theorem extractDepositResults : Obligations.ExtractDepositResults := by
  intro s p rd rs1 imm7 imm6 hp pos len a d
  refine ⟨fun hpos hfit => ?inRange, fun h => ?outOfRange⟩
  case inRange =>
    have hin : ¬ fieldOutOfRange s.xlen imm7 imm6 = true := by rw [fieldOutOfRange_iff]; omega
    exact ⟨writesBits_execExtract hp hin, writesBits_execDeposit hp hin⟩
  case outOfRange =>
    have hout : fieldOutOfRange s.xlen imm7 imm6 = true := fieldOutOfRange_iff.mpr h
    exact ⟨execExtract_of_outOfRange hp hout, execDeposit_of_outOfRange hp hout⟩

end Sys2Proof.Machine
end

section
/-! PROOFS. The logical instructions and the packed compares, decoded and executed (45_alu_packed.md R222 to R228): the
fields of a format 4a word, the logical forms bit by bit, and a packed operation lane by lane. -/

namespace Sys2Proof.Machine
open Sys2Proof

/-! ### The words (30_encoding.md R89) -/

section Words
variable (x : Xlen) (p : Pred) (rd rs1 rs2 : Reg)

/-- The fields that the decoders of format 4a read. -/
theorem fields_fmt4a (op : BitVec 6) (swc : BitVec 2) (var sa : BitVec 3) :
    fOpcode (fmt4a op p rd rs1 rs2 swc var sa) = op.toNat ∧ fP (fmt4a op p rd rs1 rs2 swc var sa) = p
      ∧ fRd (fmt4a op p rd rs1 rs2 swc var sa) = rd ∧ fRs1 (fmt4a op p rd rs1 rs2 swc var sa) = rs1
      ∧ fRs2 (fmt4a op p rd rs1 rs2 swc var sa) = rs2 ∧ fSwc (fmt4a op p rd rs1 rs2 swc var sa) = swc
      ∧ fVar (fmt4a op p rd rs1 rs2 swc var sa) = var ∧ fSa (fmt4a op p rd rs1 rs2 swc var sa) = sa :=
  ⟨fOpcode_fmt4a .., fP_fmt4a .., fRd_fmt4a .., fRs1_fmt4a .., fRs2_fmt4a .., fSwc_fmt4a .., fVar_fmt4a ..,
    fSa_fmt4a ..⟩

theorem decode_andReg_word : decode x (word4 0b110001 p rd rs1 rs2 0 0 0) = .ok (.andReg p rd rs1 rs2) := by
  simp [word4_eq_fmt4a, decode, decodeAnd, fields_fmt4a]

theorem decode_andcm_word : decode x (word4 0b110010 p rd rs1 rs2 0 0 0) = .ok (.andcm p rd rs1 rs2) := by
  simp [word4_eq_fmt4a, decode, decodeAndcm, fields_fmt4a]

theorem decode_orReg_word : decode x (word4 0b110011 p rd rs1 rs2 0 0 0) = .ok (.orReg p rd rs1 rs2) := by
  simp [word4_eq_fmt4a, decode, decodeOr, fields_fmt4a]

theorem decode_xorReg_word : decode x (word4 0b110100 p rd rs1 rs2 0 0 0) = .ok (.xorReg p rd rs1 rs2) := by
  simp [word4_eq_fmt4a, decode, decodeXor, fields_fmt4a]

/-- The opcode of pcmp leaves the rest of its word to `decodePcmp`. -/
theorem decode_pcmp_word (swc : BitVec 2) (var sa : BitVec 3) :
    decode x (word4 0b110110 p rd rs1 rs2 swc var sa) = decodePcmp x (fmt4a 0b110110 p rd rs1 rs2 swc var sa) := by
  simp [word4_eq_fmt4a, decode, fields_fmt4a]

end Words

/-! ### A packed operation and the masks of the compares (45_alu_packed.md R210, R227, R228) -/

/-- A packed operation of a size that exists writes, lane by lane, what the operation gives on the lanes. -/
theorem writesPairs_packed {s : State} {p : Pred} (hp : s.pred p = true) (rd rs1 rs2 : Reg) {w : Nat}
    (hw : w ≤ s.xlen) {f : BitVec w → BitVec w → BitVec w} {R : BitVec w → BitVec w → BitVec w → Prop}
    (hR : ∀ a b, R a b (f a b)) : WritesPairs s rd rs1 rs2 w R (packed w f p rd rs1 rs2 s) := by
  refine ⟨zipLanes w f (s.reg s.xlen rs1) (s.reg s.xlen rs2), ?written, fun k hk => ?lanes⟩
  case written =>
    rw [packed, sized_of_le _ hw]
    exact writesOnly_guarded_writeReg hp rd _
  case lanes =>
    rw [lane_zipLanes w f _ _ k hk]
    exact hR _ _

theorem mask_decide (w : Nat) (c : Prop) [Decidable c] : mask w (decide c) = if c then BitVec.allOnes w else 0 := by
  simp only [mask, decide_eq_true_iff]
  rfl

theorem maskEq_eq_ite {w : Nat} (a b : BitVec w) : maskEq a b = if a = b then BitVec.allOnes w else 0 :=
  mask_decide w (a = b)

theorem maskGt_eq_ite {w : Nat} (a b : BitVec w) : maskGt a b = if b.toInt < a.toInt then BitVec.allOnes w else 0 :=
  mask_decide w (b.toInt < a.toInt)

/-! ### The obligations -/

/-- Settles O44: the words by the decoder's lemmas; the arms are guarded writes, whose bits are those of the operation
on the registers. -/
theorem logicalResults : Obligations.LogicalResults := by
  intro s p rd rs1 rs2 a b
  refine ⟨decode_andReg_word _ p rd rs1 rs2, decode_andcm_word _ p rd rs1 rs2, decode_orReg_word _ p rd rs1 rs2,
    decode_xorReg_word _ p rd rs1 rs2, decode_notReg_word _ p rd rs1 rs2,
    fun hp => ⟨?and, ?andcm, ?or, ?xor, ?not⟩⟩
  case and => exact writesBits_guarded_writeReg hp rd _ fun i _ => BitVec.getLsbD_and
  case andcm =>
    refine writesBits_guarded_writeReg hp rd _ fun i hi => ?_
    rw [BitVec.getLsbD_and, BitVec.getLsbD_not, decide_eq_true hi, Bool.true_and]
  case or => exact writesBits_guarded_writeReg hp rd _ fun i _ => BitVec.getLsbD_or
  case xor =>
    refine writesBits_guarded_writeReg hp rd _ fun i _ => ?_
    rw [BitVec.getLsbD_xor, Bool.bne_eq_xor]
  case not =>
    refine writesBits_guarded_writeReg hp rd _ fun i hi => ?_
    rw [BitVec.getLsbD_not, decide_eq_true hi, Bool.true_and]

/-- Settles O49: the words by `decodePcmp`, which selects size and relation; each arm is `packed` of a mask. -/
theorem packedCompareResults : Obligations.PackedCompareResults := by
  intro s p rd rs1 rs2
  refine ⟨?eq1, ?gt1, ?eq2, ?gt2, ?eq4, ?gt4, fun h64 => ?eq8, fun h64 => ?gt8, fun hp => ?results⟩
  case eq1 | gt1 | eq2 | gt2 | eq4 | gt4 => rw [decode_pcmp_word]; simp [decodePcmp, fields_fmt4a]
  case eq8 | gt8 => rw [decode_pcmp_word]; simp [decodePcmp, fields_fmt4a, h64, existsFrom64]
  case results =>
    have heq {w : Nat} (hw : w ≤ s.xlen) : WritesPairs s rd rs1 rs2 w
        (fun a b v => v = if a = b then BitVec.allOnes w else 0) (packed w maskEq p rd rs1 rs2 s) :=
      writesPairs_packed hp rd rs1 rs2 hw maskEq_eq_ite
    have hgt {w : Nat} (hw : w ≤ s.xlen) : WritesPairs s rd rs1 rs2 w
        (fun a b v => v = if b.toInt < a.toInt then BitVec.allOnes w else 0) (packed w maskGt p rd rs1 rs2 s) :=
      writesPairs_packed hp rd rs1 rs2 hw maskGt_eq_ite
    have h8 : 8 ≤ s.xlen := s.bits_le_xlen (n := 1) (by decide)
    have h16 : 16 ≤ s.xlen := s.bits_le_xlen (n := 2) (by decide)
    have h32 : 32 ≤ s.xlen := s.xlen_ge
    exact ⟨heq h8, heq h16, heq h32, fun h64 => heq (State.bits_le_xlen_of_x64 h64),
      hgt h8, hgt h16, hgt h32, fun h64 => hgt (State.bits_le_xlen_of_x64 h64)⟩

end Sys2Proof.Machine
end

section
/-! PROOFS. The packed multiplies, executed (46_multiply_packed.md R250 to R254): a product of two subwords fits twice
their width, so the products of the model are exact, and their low halves after a shift are quotients. -/

namespace Sys2Proof.Machine
open Sys2Proof

/-! ### Exact products (R250): two subwords of w bits, a product of 2w bits -/

section Products
variable {w : Nat} (a b : BitVec w)

/-- A signed product is at most 2^(2w-2) in size, below the sign bit of 2w bits. -/
theorem toInt_ofInt_mul (hw : 0 < w) : (BitVec.ofInt (w * 2) (a.toInt * b.toInt)).toInt = a.toInt * b.toInt := by
  have hbelow : (2 : Int) ^ (w * 2 - 2) < 2 ^ (w * 2 - 1) := pow_lt_pow_right₀ (by decide) (by omega)
  exact BitVec.toInt_ofInt_eq_self (by omega) (le_trans (neg_le_neg hbelow.le) BitVec.le_toInt_mul_toInt)
    (lt_of_le_of_lt BitVec.toInt_mul_toInt_le hbelow)

theorem toNat_ofNat_mul : (BitVec.ofNat (w * 2) (a.toNat * b.toNat)).toNat = a.toNat * b.toNat := by
  rw [BitVec.toNat_ofNat, Nat.mod_eq_of_lt BitVec.toNat_mul_toNat_lt]

end Products

/-! ### The low bits of a shifted value, as a quotient -/

/-- A value cut to fewer bits is its signed number modulo their power of two. -/
theorem natCast_toNat_setWidth {N n : Nat} (x : BitVec N) (h : n ≤ N) :
    ((x.setWidth n).toNat : Int) = x.toInt % 2 ^ n := by
  rw [← BitVec.signExtend_eq_setWidth_of_le x h, BitVec.signExtend, BitVec.toNat_ofInt,
    Int.toNat_of_nonneg (Int.emod_nonneg _ (by positivity)), Nat.cast_pow, Nat.cast_ofNat]

section ShiftedProducts
variable (sa : Nat) (a b : BitVec 16)

/-- R253: the logical shift of the unsigned product divides it. -/
theorem toNat_mulShiftU : (mulShiftU sa a b).toNat = a.toNat * b.toNat / 2 ^ sa % 2 ^ 16 := by
  rw [mulShiftU, BitVec.toNat_setWidth, BitVec.toNat_ushiftRight, toNat_ofNat_mul a b, Nat.shiftRight_eq_div_pow]

/-- R254: the arithmetic shift of the signed product divides it rounding down. -/
theorem natCast_toNat_mulShiftS : ((mulShiftS sa a b).toNat : Int) = a.toInt * b.toInt / 2 ^ sa % 2 ^ 16 := by
  rw [mulShiftS, natCast_toNat_setWidth _ (by decide), BitVec.toInt_sshiftRight, toInt_ofInt_mul a b (by decide),
    Int.shiftRight_eq_div_pow, Nat.cast_pow, Nat.cast_ofNat]

end ShiftedProducts

/-! ### The arms, executed -/

section ExecutedArms
variable {s : State} {p : Pred} (hp : s.pred p = true) (rd rs1 rs2 : Reg)
include hp

/-- pmul writes the exact products of the upper (odd = 1) or lower (odd = 0) halves of the 32-bit lanes. -/
theorem writesLanes_mulLanes (odd : Nat) :
    WritesLanes s rd 32
      (fun j v => v.toInt
        = (lane 16 (s.reg s.xlen rs1) (2 * j + odd)).toInt * (lane 16 (s.reg s.xlen rs2) (2 * j + odd)).toInt)
      (guarded p s (writeReg s rd (mulLanes odd (s.reg s.xlen rs1) (s.reg s.xlen rs2)))) := by
  refine ⟨_, writesOnly_guarded_writeReg hp rd _, fun j hj => ?_⟩
  rw [lane_mulLanes odd _ _ j hj]
  exact toInt_ofInt_mul _ _ (by decide)

/-- `mulShift` is the packed operation on 16-bit lanes, a size that exists at both register sizes. -/
theorem writesPairs_mulShift {f : BitVec 16 → BitVec 16 → BitVec 16} {R : BitVec 16 → BitVec 16 → BitVec 16 → Prop}
    (hR : ∀ a b, R a b (f a b)) : WritesPairs s rd rs1 rs2 16 R (mulShift f p rd rs1 rs2 s) := by
  have hpacked : packed 16 f p rd rs1 rs2 s = mulShift f p rd rs1 rs2 s := sized_of_le_32 _ (by decide)
  rw [← hpacked]
  exact writesPairs_packed hp rd rs1 rs2 (s.bits_le_xlen (n := 2) (by decide)) hR

end ExecutedArms

/-! ### The obligations -/

/-- Settles O52: both arms are guarded writes of `mulLanes`, whose products fit their 32-bit lanes. -/
theorem packedMultiplyResults : Obligations.PackedMultiplyResults := by
  intro s p rd rs1 rs2 hp a b
  exact ⟨writesLanes_mulLanes hp rd rs1 rs2 1, writesLanes_mulLanes hp rd rs1 rs2 0⟩

/-- Settles O53: each arm is `mulShift` by one of the four amounts, of the unsigned or of the signed product. -/
theorem packedMultiplyShiftResults : Obligations.PackedMultiplyShiftResults := by
  intro s p rd rs1 rs2 hp
  have hunsigned (sa : Nat) : WritesPairs s rd rs1 rs2 16 (fun a b v => v.toNat = a.toNat * b.toNat / 2 ^ sa % 2 ^ 16)
      (mulShift (mulShiftU sa) p rd rs1 rs2 s) := writesPairs_mulShift hp rd rs1 rs2 (toNat_mulShiftU sa)
  have hsigned (sa : Nat) : WritesPairs s rd rs1 rs2 16
      (fun a b v => (v.toNat : Int) = a.toInt * b.toInt / 2 ^ sa % 2 ^ 16)
      (mulShift (mulShiftS sa) p rd rs1 rs2 s) := writesPairs_mulShift hp rd rs1 rs2 (natCast_toNat_mulShiftS sa)
  exact ⟨hunsigned 0, hunsigned 8, hunsigned 15, hunsigned 16, hsigned 0, hsigned 8, hsigned 15, hsigned 16⟩

end Sys2Proof.Machine
end

section
/-! PROOFS. The byte permutations mux.rev and mux.brcst, decoded and executed (48_subword_permutation.md R273, R277): a
register is determined by its lanes, so a permutation of the lanes that undoes itself undoes itself on registers. -/

namespace Sys2Proof.Machine
open Sys2Proof

/-! ### The words (30_encoding.md R90, R94) -/

/-- The second source field of format 4a, all zero, is the immediate field of format 4b. -/
theorem fmt4a_zero_eq_fmt4b (op : BitVec 6) (p : Pred) (rd rs1 : Reg) (swc : BitVec 2) (var sa : BitVec 3) :
    fmt4a op p rd rs1 0 swc var sa = fmt4b op p rd rs1 0 swc var sa := rfl

theorem fImm5_fmt4a_zero (op : BitVec 6) (p : Pred) (rd rs1 : Reg) (swc : BitVec 2) (var sa : BitVec 3) :
    fImm5 (fmt4a op p rd rs1 0 swc var sa) = 0 := by
  rw [fmt4a_zero_eq_fmt4b, fImm5_fmt4b]

/-- The opcode of mux leaves the rest of a word whose immediate is 0 to `decodeMux`. -/
theorem decode_mux_word (x : Xlen) (p : Pred) (rd rs1 : Reg) (swc : BitVec 2) (var sa : BitVec 3) :
    decode x (word4 0b001110 p rd rs1 0 swc var sa) = decodeMux (fmt4a 0b001110 p rd rs1 0 swc var sa) := by
  simp [word4_eq_fmt4a, decode, fields_fmt4a, fImm5_fmt4a_zero]

/-! ### Values by their lanes (00_scope.md R8) -/

/-- Lanes that fill a value determine it. -/
theorem eq_of_lanes_eq {N w : Nat} (hw : w ∣ N) {a b : BitVec N}
    (h : ∀ k, k < laneCount N w → lane w a k = lane w b k) : a = b := by
  apply BitVec.eq_of_getLsbD_eq
  intro i hi
  have hpos : 0 < w := Nat.pos_of_dvd_of_pos hw (Nat.zero_lt_of_lt hi)
  have hlane : i / w < laneCount N w := Nat.div_lt_div_of_lt_of_dvd hw hi
  have hbit := congrArg (BitVec.getLsbD · (i % w)) (h (i / w) hlane)
  simpa only [getLsbD_lane, decide_eq_true (Nat.mod_lt i hpos), Bool.true_and, Nat.div_add_mod] using hbit

/-- The bytes fill a register (00_scope.md R3). -/
theorem State.eight_dvd_xlen (s : State) : 8 ∣ s.xlen := by rcases s.xlen_cases with h | h <;> omega

section ByteLanes
variable {N : Nat} (a : BitVec N) {k : Nat}

theorem lane_reverseBytes (hk : k < laneCount N 8) : lane 8 (reverseBytes a) k = lane 8 a (laneCount N 8 - 1 - k) :=
  lane_ofLanes N 8 _ _ k (mul_laneCount_le N 8) hk

theorem lane_broadcastByte (hk : k < laneCount N 8) : lane 8 (broadcastByte a) k = lane 8 a 0 :=
  lane_ofLanes N 8 _ _ k (mul_laneCount_le N 8) hk

/-- Reversing twice reads lane n - 1 - (n - 1 - k), which is lane k. -/
theorem reverseBytes_reverseBytes (hN : 8 ∣ N) : reverseBytes (reverseBytes a) = a := by
  refine eq_of_lanes_eq hN fun k hk => ?_
  rw [lane_reverseBytes _ hk, lane_reverseBytes _ (by omega), Nat.sub_sub_self (by omega)]

end ByteLanes

/-! ### Guarded writes of lanes, and two writes of one register in a row -/

theorem KeepsPreds.pred_eq {s t : State} (h : KeepsPreds s t) (p : Pred) : t.pred p = s.pred p := by
  obtain ⟨hps, haps⟩ := h
  simp only [State.pred, hps, haps]

section ExecutedWrite
variable {s : State} {p : Pred} (hp : s.pred p = true) (rd : Reg) (v : BitVec s.xlen)
include hp

theorem writesLanes_guarded_writeReg {w : Nat} {P : Nat → BitVec w → Prop}
    (hP : ∀ k, k < laneCount s.xlen w → P k (lane w v k)) : WritesLanes s rd w P (guarded p s (writeReg s rd v)) :=
  ⟨v, writesOnly_guarded_writeReg hp rd v, hP⟩

/-- An operation `g` of a register on itself, under the guard of the write before it, reads the value written. -/
theorem guarded_writeReg_twice (hrd : rd ≠ 0) (g : {N : Nat} → BitVec N → BitVec N) :
    ∃ t u, guarded p s (writeReg s rd v) = .next t ∧ guarded p t (writeReg t rd (g (t.reg t.xlen rd))) = .next u
      ∧ u.reg s.xlen rd = g v := by
  obtain ⟨t, hwrite, hread, -, hpreds, -, ⟨-, hcfg⟩, -⟩ := writesOnly_guarded_writeReg hp rd v
  rw [if_neg hrd] at hread
  have hxlen : t.xlen = s.xlen := congrArg (fun c : Config => c.xlen.bits) hcfg
  refine ⟨t, _, hwrite, guarded_of_true _ ((hpreds.pred_eq p).trans hp), ?value⟩
  rw [State.advance_reg, hxlen, hread, State.reg_setReg_self t rd _ s.xlen_le, if_neg hrd]

end ExecutedWrite

/-! ### The obligation -/

/-- Settles O57: the words by `decodeMux`; both arms are guarded writes, of values whose lanes are those of the
statement; a second mux.rev reads the reversed value, whose reversal is the source. -/
theorem muxReverseBroadcastResults : Obligations.MuxReverseBroadcastResults := by
  intro s p rd rs1 a n
  refine ⟨?revWord, ?brcstWord, fun hp => ⟨?rev, ?brcst, fun hrd => ?twice⟩⟩
  case revWord | brcstWord => rw [decode_mux_word]; simp [decodeMux, fields_fmt4a]
  case rev => exact writesLanes_guarded_writeReg hp rd _ fun k hk => lane_reverseBytes a hk
  case brcst => exact writesLanes_guarded_writeReg hp rd _ fun k hk => lane_broadcastByte a hk
  case twice =>
    have htwice := guarded_writeReg_twice hp rd (reverseBytes a) hrd reverseBytes
    rwa [reverseBytes_reverseBytes a s.eight_dvd_xlen] at htwice

end Sys2Proof.Machine
end

section
/-! PROOFS. The predicates as data, and who writes them (10_state.md section 4). -/

namespace Sys2Proof.Machine
open Sys2Proof

/-! ### Predicate writes by instruction -/

/-- An executed cmp, cmpi or testbit is the write of Pa and of its complement Pb. -/
theorem Executed.eq_of_isCompare {i : Instr} {s t : State} (h : Executed i s t) (hop : IsCompare i) :
    ∃ b, t = ((s.setPred (fPa (encode i)) b).setPred (fPb (encode i)) (!b)).advance := by
  unfold IsCompare at hop
  cases h with
  | compare b => exact ⟨b, rfl⟩
  | loadUpdate v hlu => unfold IsLoadUpdate at hlu; omega
  | store u hst | storeUpdate u hst => unfold IsStore at hst; omega
  | _ => omega

/-- An executed changepr.ld is the load of the set it makes active. -/
theorem Executed.eq_of_changeprLd {i : Instr} {s t : State} (h : Executed i s t) (hop : opcodeOf i = 0x0C) :
    t = ((s.setAps (fLow4 (encode i)).toFin).loadPreds (fImm8 (encode i))).advance := by
  cases h with
  | changeprLd => rfl
  | compare b hc => unfold IsCompare at hc; omega
  | loadUpdate v hlu => unfold IsLoadUpdate at hlu; omega
  | store u hst | storeUpdate u hst => unfold IsStore at hst; omega
  | _ => omega

/-- Every other executed instruction keeps the sixteen sets. -/
theorem Executed.ps_eq {i : Instr} {s t : State} (h : Executed i s t)
    (hop : ¬ (IsCompare i ∨ opcodeOf i = 0x0C)) : t.ps = s.ps := by
  cases h with
  | compare b hc => exact absurd (.inl hc) hop
  | changeprLd hc => exact absurd (.inr hc) hop
  | store u hst hlt hw | storeUpdate u hst hge hw =>
    obtain ⟨-, -, rfl⟩ := State.memWrite_ok hw
    simp
  | _ => simp

/-- An instruction that answers a next state under a guard that reads 1 was executed. -/
theorem executed_of_exec {i : Instr} {s t : State} (h : exec i s = .next t) (hp : s.pred i.guardField = true) :
    Executed i s t := by
  cases exec_next h with
  | nullified hp0 => simp [hp] at hp0
  | executed _ hx => exact hx

/-! ### The obligations -/

/-- Settles O15: `exec_agree_withPreds`. -/
theorem predicatesAreReadOnlyAsGuards : Obligations.PredicatesAreReadOnlyAsGuards :=
  fun _ _ _ _ hg => exec_agree_withPreds hg

/-- Settles O13. -/
theorem predicateWriters : Obligations.PredicateWriters := by
  intro i s t h
  refine ⟨fun hcmp hp => ?compares, fun hop hp => ?loads, fun hno => ?others⟩
  case compares =>
    obtain ⟨b, rfl⟩ := (executed_of_exec h hp).eq_of_isCompare hcmp
    obtain ⟨_, ht, hpred, haps, hsets, -⟩ := writesPredicates_finish s (fPa (encode i)) (fPb (encode i)) b
    cases ht
    refine ⟨haps, hsets, b, hpred⟩
  case loads =>
    have ht := (executed_of_exec h hp).eq_of_changeprLd hop
    subst ht
    refine ⟨fun k hk => State.loadPreds_ps_of_ne _ _ hk, fun s' t' hp' h' => ?_⟩
    have ht' := (executed_of_exec h' hp').eq_of_changeprLd hop
    subst ht'
    exact ⟨rfl, fun j => by simp only [State.advance_pred, State.pred_loadPreds]⟩
  case others =>
    cases exec_next h with
    | nullified => rfl
    | executed hp hx =>
      refine hx.ps_eq ?_
      rcases hno with hno | hp0
      · exact hno
      · have htrap : opcodeOf i = 0x03 := by simpa [hp0] using hp.imp_right And.left
        unfold IsCompare
        omega

end Sys2Proof.Machine
end

section
/-! PROOFS. Memory along a run: which bytes an instruction can write, and that no byte of the program text is one of
them (20_memory.md R65). -/

namespace Sys2Proof.Machine
open Sys2Proof

/-! ### What an executed instruction leaves of memory and of the configuration -/

/-- Memory after an executed instruction is what it was, or what a store at its effective address made it. -/
theorem Executed.mem_eq_or_store {i : Instr} {s t : State} (h : Executed i s t) :
    t.mem = s.mem ∨ IsStore i ∧ ∃ u,
      s.memWrite (wordAddress s (encode i)) (accessBytes (encode i)) (s.reg s.xlen (fRd (encode i))) = .ok u
        ∧ t.mem = u.mem := by
  cases h with
  | store u hop hlt hw => exact .inr ⟨hop, u, hw, u.advance_mem⟩
  | storeUpdate u hop hge hw => exact .inr ⟨hop, u, hw, by simp⟩
  | _ => exact .inl (by simp)

theorem Executed.cfg_eq {i : Instr} {s t : State} (h : Executed i s t) : t.cfg = s.cfg := by
  cases h with
  | store u hop hlt hw | storeUpdate u hop hge hw =>
    obtain ⟨-, -, rfl⟩ := State.memWrite_ok hw
    simp
  | _ => simp

theorem keepsMem_of_mem_eq {s t : State} (h : t.mem = s.mem) : KeepsMem s t := by
  intro a
  rw [State.readByte, State.readByte, h]

/-- A store writes the n bytes from its address and no other. -/
theorem State.readByte_memWrite_outside {s u : State} {N m : Nat} {ea : BitVec N} {n : Nat} {v : BitVec m}
    (h : s.memWrite ea n v = .ok u) {a : Nat} (ha : a < ea.toNat ∨ ea.toNat + n ≤ a) :
    u.readByte a = s.readByte a := by
  obtain ⟨-, -, rfl⟩ := State.memWrite_ok h
  exact s.readByte_storeBytes_outside ea.toNat n v ha

/-- A store writes no byte of TEXT. -/
theorem State.readByte_memWrite_text {s u : State} {N m : Nat} {ea : BitVec N} {n : Nat} {v : BitVec m}
    (h : s.memWrite ea n v = .ok u) {a : Nat} (ha : s.cfg.inText a = true) : u.readByte a = s.readByte a := by
  refine State.readByte_memWrite_outside h ?_
  obtain ⟨-, htext, -⟩ := State.memWrite_ok h
  by_contra hin
  have hout := (touchesText_false _ _ _).mp htext (a - ea.toNat) (by omega)
  rw [show ea.toNat + (a - ea.toNat) = a by omega, ha] at hout
  cases hout

/-- Settles O17: of the shapes of an executed instruction only the stores change memory, and those write the bytes of
their access. -/
theorem onlyStoresWriteMemory : Obligations.OnlyStoresWriteMemory := by
  intro i s t h
  cases exec_next h with
  | nullified => exact ⟨fun _ _ => rfl, fun _ _ => rfl⟩
  | executed hp hx =>
    rcases hx.mem_eq_or_store with hmem | ⟨hop, u, hw, hmem⟩
    · exact ⟨fun _ => keepsMem_of_mem_eq hmem, fun a _ => keepsMem_of_mem_eq hmem a⟩
    · refine ⟨fun hno => ?_, fun a ha => ?_⟩
      · have hstore : 0x18 ≤ opcodeOf i := hop.1
        rcases hno with hno | hp0
        · exact absurd hop hno
        · have htrap : opcodeOf i = 0x03 := by simpa [hp0] using hp.imp_right And.left
          omega
      · rw [keepsMem_of_mem_eq hmem a, State.readByte_memWrite_outside hw ha]

/-! ### Runs -/

section Runs
variable {M : Host.Core} {k : Nat} {s t u : M.State}

theorem run_succ_of_step (h : M.step s = .next u) : M.run (k + 1) s = M.run k u := by
  rw [Host.Core.run, h]

/-- A run of k + 1 steps is a step and a run of k. -/
theorem run_succ (h : M.run (k + 1) s = .next t) : ∃ u, M.step s = .next u ∧ M.run k u = .next t := by
  rw [Host.Core.run] at h
  split at h
  next u hu => exact ⟨u, hu, h⟩
  next => cases h
  next => cases h

/-- What every state has with itself, and carries back over a step, holds of the two ends of a run. -/
theorem run_induction {R : M.State → M.State → Prop} (hrefl : ∀ s, R s s)
    (hstep : ∀ {s u t : M.State}, M.step s = .next u → R u t → R s t) (h : M.run k s = .next t) : R s t := by
  induction k generalizing s with
  | zero => cases h; exact hrefl _
  | succ k ih =>
    obtain ⟨u, hu, hrun⟩ := run_succ h
    exact hstep hu (ih hrun)

end Runs

/-- The configuration is that of s, and every byte of its TEXT reads as in s. -/
def KeepsText (s t : State) : Prop :=
  t.cfg = s.cfg ∧ ∀ a, s.cfg.inText a = true → t.readByte a = s.readByte a

theorem exec_keepsText {i : Instr} {s t : State} (h : exec i s = .next t) : KeepsText s t := by
  cases exec_next h with
  | nullified => exact ⟨rfl, fun _ _ => rfl⟩
  | executed _ hx =>
    refine ⟨hx.cfg_eq, fun a ha => ?_⟩
    rcases hx.mem_eq_or_store with hmem | ⟨-, u, hw, hmem⟩
    · exact keepsMem_of_mem_eq hmem a
    · rw [keepsMem_of_mem_eq hmem a, State.readByte_memWrite_text hw ha]

theorem step_keepsText {s t : State} (h : step s = .next t) : KeepsText s t := by
  rcases step_next h with ⟨-, rfl⟩ | ⟨i, w, -, -, -, hexec⟩
  · exact ⟨rfl, fun _ _ => rfl⟩
  · exact exec_keepsText hexec

/-- Settles O11: `step_keepsText` along the run. -/
theorem textNeverChanges : Obligations.TextNeverChanges := by
  intro k s t h
  refine run_induction (M := core) (R := KeepsText) (fun s => ⟨rfl, fun _ _ => rfl⟩) (fun {s u t} hstep hut => ?_) h
  obtain ⟨hcfg, htext⟩ := step_keepsText hstep
  obtain ⟨hcfg', htext'⟩ := hut
  exact ⟨hcfg'.trans hcfg, fun a ha => (htext' a (hcfg ▸ ha)).trans (htext a ha)⟩

theorem step_of_halted {s : State} (h : s.halted = true) : step s = .next s := by
  simp [step, frontEnd, h, idle]

theorem haltsIn_succ {k : Nat} {s t : State} (h : HaltsIn k s t) : HaltsIn (k + 1) s t := by
  obtain ⟨hrun, hhalted⟩ := h
  refine ⟨?_, hhalted⟩
  induction k generalizing s with
  | zero =>
    cases hrun
    exact run_succ_of_step (M := core) (step_of_halted hhalted)
  | succ k ih =>
    obtain ⟨u, hu, hrest⟩ := run_succ hrun
    exact (run_succ_of_step hu).trans (ih hrest)

/-- Settles O10: one step more at a time (`haltsIn_succ`). -/
theorem haltedStateStays : Obligations.HaltedStateStays := by
  intro k n s t h hkn
  induction n, hkn using Nat.le_induction with
  | base => exact h
  | succ n _ ih => exact haltsIn_succ ih

end Sys2Proof.Machine
end

section
/-! PROOFS. The invariant of the machine: memory in its canonical form and within MEM_MAP, R0's cell 0, and XLEN-bit
registers and pc (10_state.md sections 1 and 2, logs 52 and 57). -/

namespace Sys2Proof.Machine
open Sys2Proof

/-- A value of at most XLEN bits in a cell. -/
theorem toNat_cell_lt {N M : Nat} (v : BitVec N) (h : N ≤ M) : (v.setWidth 64).toNat < 2 ^ M := by
  rw [BitVec.toNat_setWidth]
  calc v.toNat % 2 ^ 64 ≤ v.toNat := Nat.mod_le _ _
    _ < 2 ^ N := v.isLt
    _ ≤ 2 ^ M := Nat.pow_le_pow_right (by decide) h

namespace State.Inv
variable {s : State} (h : s.Inv)
include h

/-- The invariant speaks of the configuration, memory, the registers and the pc alone. -/
theorem of_eq {t : State} (hcfg : t.cfg = s.cfg) (hmem : t.mem = s.mem) (hgpr : t.gpr = s.gpr) (hpc : t.pc = s.pc) :
    t.Inv := by
  unfold State.Inv State.xlen at h ⊢
  rwa [hcfg, hmem, hgpr, hpc]

theorem setPc {N : Nat} (v : BitVec N) (hN : N ≤ s.xlen) : (s.setPc v).Inv := by
  obtain ⟨hwf, hmap, hzero, hregs, -⟩ := h
  exact ⟨hwf, hmap, hzero, hregs, toNat_cell_lt v hN⟩

theorem advance : s.advance.Inv := h.setPc _ le_rfl

theorem setReg (r : Reg) {N : Nat} (v : BitVec N) (hN : N ≤ s.xlen) : (s.setReg r v).Inv := by
  obtain ⟨hwf, hmap, hzero, hregs, hpc⟩ := h
  unfold State.Inv
  simp only [State.setReg_mem, State.setReg_cfg, State.setReg_xlen, State.setReg_pc]
  refine ⟨hwf, hmap, ?zero, fun q => ?regs, hpc⟩
  case zero =>
    by_cases h0 : r = 0
    · rw [h0, State.setReg_zero, hzero]
    · exact (s.setReg_gpr_of_ne r v (q := 0) (Ne.symm h0)).trans hzero
  case regs =>
    by_cases hq : q = r
    · by_cases h0 : r = 0
      · rw [h0, State.setReg_zero]
        exact hregs q
      · rw [hq, State.setReg_gpr_self s r v h0]
        exact toNat_cell_lt v hN
    · rw [State.setReg_gpr_of_ne s r v hq]
      exact hregs q

/-- A store keeps the canonical form, and writes only mapped addresses. -/
theorem memWrite {u : State} {N m : Nat} {ea : BitVec N} {n : Nat} {v : BitVec m} (hw : s.memWrite ea n v = .ok u) :
    u.Inv := by
  obtain ⟨hwf, hmap, hzero, hregs, hpc⟩ := h
  obtain ⟨hadm, -, rfl⟩ := State.memWrite_ok hw
  obtain ⟨-, hmapped⟩ := (accessFault?_none _ _ _).mp hadm
  refine ⟨Memory.wf_writeBytes _ _ _ hwf, fun c hc => ?_, hzero, hregs, hpc⟩
  rcases Memory.mem_writeBytes _ _ _ _ hc with ⟨hlo, hhi⟩ | hold
  · rw [length_valueBytes] at hhi
    have hin := hmapped (c.1 - ea.toNat) (by omega)
    rwa [show ea.toNat + (c.1 - ea.toNat) = c.1 by omega] at hin
  · exact hmap c hold

/-- Every shape of an executed instruction keeps the invariant. -/
theorem executed {i : Instr} {t : State} (hx : Executed i s t) : t.Inv := by
  cases hx with
  | jump v => exact h.setPc v le_rfl
  | jumpLink v => exact (h.setReg _ _ le_rfl).setPc v (by simp)
  | trap => exact h.of_eq rfl rfl rfl rfl
  | compare => exact (h.of_eq (by simp) (by simp) (by simp) (by simp)).advance
  | changepr | changeprLd => exact (h.of_eq rfl rfl rfl rfl).advance
  | write v => exact (h.setReg _ v le_rfl).advance
  | loadUpdate v => exact ((h.setReg _ v le_rfl).setReg _ _ (by simp)).advance
  | store u _ _ hw => exact (h.memWrite hw).advance
  | storeUpdate u _ _ hw =>
    obtain ⟨-, -, rfl⟩ := State.memWrite_ok hw
    exact ((h.memWrite hw).setReg _ _ le_rfl).advance

end State.Inv

/-- Settles O7: a halted machine keeps its state, a nullified instruction advances, and an executed one has one of the
shapes of `Executed`. -/
theorem stepKeepsInvariant : Obligations.StepKeepsInvariant := by
  intro s t hinv h
  rcases step_next h with ⟨-, rfl⟩ | ⟨i, w, -, -, -, hexec⟩
  · exact hinv
  · cases exec_next hexec with
    | nullified => exact hinv.advance
    | executed _ hx => exact hinv.executed hx

/-! ### After reset -/

theorem Config.lt_of_mapped {c : Config} {a : Nat} (h : c.mapped a = true) : a < 2 ^ c.xlen.bits := by
  unfold Config.mapped at h
  simp only [Bool.and_eq_true, decide_eq_true_eq] at h
  exact h.1

/-- RESET_PC of an admissible configuration is a multiple of 4 in MEM_MAP. -/
theorem Config.resetPc_of_wf {c : Config} (h : c.wf = true) : c.resetPc % 4 = 0 ∧ c.mapped c.resetPc = true := by
  simp only [Config.wf, Bool.and_eq_true, decide_eq_true_eq] at h
  obtain ⟨⟨-, haligned⟩, hmapped⟩ := h
  exact ⟨haligned, hmapped⟩

/-- Settles O8. -/
theorem resetMeetsInvariant : Obligations.ResetMeetsInvariant := by
  intro c hwf
  obtain ⟨-, hmapped⟩ := Config.resetPc_of_wf hwf
  refine ⟨rfl, fun _ hc => absurd hc List.not_mem_nil, ?zero, fun r => ?regs, ?pc⟩
  case zero => simp [State.resetWith]
  case regs => simp [State.resetWith]
  case pc =>
    refine lt_of_le_of_lt ?_ (Config.lt_of_mapped hmapped)
    exact (BitVec.toNat_ofNat ..).trans_le (Nat.mod_le _ _)

/-- Settles O9. -/
theorem resetStateValues : Obligations.ResetStateValues := by
  refine ⟨fun c hwf => ?_, rfl, by decide, rfl⟩
  obtain ⟨haligned, hmapped⟩ := Config.resetPc_of_wf hwf
  refine ⟨rfl, ?pc, haligned, hmapped, rfl, fun N => State.reg_zero _ N, fun k => State.pred_zero _, fun a => rfl⟩
  case pc =>
    have hlt := Config.lt_of_mapped hmapped
    have hpc : (State.resetWith c).pcAddr = ((BitVec.ofNat 64 c.resetPc).setWidth c.xlen.bits).toNat := rfl
    have hle : c.xlen.bits ≤ 64 := (State.resetWith c).xlen_le
    rw [hpc, BitVec.setWidth_ofNat_of_le hle, BitVec.toNat_ofNat, Nat.mod_eq_of_lt hlt]

end Sys2Proof.Machine
end

section
/-! PROOFS. The decoder undoes the encoder (30_encoding.md section 5): the opcode of an encoded word selects the arm
that reads back every field its format places. -/

namespace Sys2Proof.Machine
open Sys2Proof

/-! ### Decoding an encoded instruction -/

/-- The field that the register jumps require to be zero (R101). -/
theorem extract_imm18_fmt1 (op : BitVec 6) (p : Pred) (rd : Reg) (imm18 : BitVec 18) :
    (fmt1 op p rd imm18).extractLsb' 0 18 = imm18 := by
  simp [fmt1, header, placeReg, placePred, extract_or, extract_place_self, extract_place_apart]

/-- The field that cmp requires to be zero (R92). -/
theorem extract_unused_fmt5a (op : BitVec 6) (p : Pred) (rs1 rs2 : Reg) (pa pb : Pred) (rel : BitVec 4) :
    (fmt5a op p rs1 rs2 pa pb rel).extractLsb' 10 3 = 0 := by
  simp [fmt5a, header, placeReg, placePred, extract_or, extract_place_apart]

theorem Instr.wf_iff {x : Xlen} {i : Instr} : i.wf x = true ↔ i.minXlen ≤ x.bits := decide_eq_true_iff

/-- A form of least size 64 that is well-formed is one of the 64-bit machine (R105). -/
theorem existsFrom64_of_wf {x : Xlen} {i : Instr} (hmin : i.minXlen = 64) (h : i.wf x = true) :
    existsFrom64 x i = .ok i := by
  rw [Instr.wf_iff, hmin] at h
  cases x with
  | x64 => rfl
  | x32 => exact absurd h (by decide)

/-- Settles O3: by the format of the instruction, and in formats 4a and 4b by its family; the 8-byte forms and mix.4
decode where they are well-formed. -/
theorem decodeEncodeIsIdentity : Obligations.DecodeEncodeIsIdentity := by
  intro x i hwf
  cases i with
  | jmp | jmpLink => rw [encode, decode, fOpcode_fmt0, fP_fmt0, fImm23_fmt0]; rfl
  | trap => rw [encode, decode, fOpcode_fmt0, fP_fmt0]; rfl
  | jmpReg | jmpRegLink =>
    rw [encode, decode, fOpcode_fmt1, fP_fmt1, fRd_fmt1]
    exact if_pos (extract_imm18_fmt1 ..)
  | loadiHi | loadiLo =>
    rw [encode, decode, fOpcode_fmt1, fP_fmt1, fRd_fmt1, fImm16_fmt1, BitVec.setWidth_setWidth_of_le _ (by decide),
      BitVec.setWidth_eq]
    rfl
  | cmpEq | cmpNe | cmpLt | cmpLe | cmpGt | cmpGe | cmpLtu | cmpLeu | cmpGtu | cmpGeu =>
    rw [encode, decode, fOpcode_fmt5a]
    refine (if_pos (extract_unused_fmt5a ..)).trans ?_
    rw [decodeCmp, fLow4_fmt5a, fP_fmt5a, fRd_fmt5a, fRs1_fmt5a, fPa_fmt5a, fPb_fmt5a]
    rfl
  | cmpiEq | cmpiNe | cmpiLt | cmpiLe | cmpiGt | cmpiGe | cmpiLtu | cmpiLeu | cmpiGtu | cmpiGeu =>
    rw [encode, decode, fOpcode_fmt5b]
    change decodeCmpi _ = _
    rw [decodeCmpi, fLow4_fmt5b, fP_fmt5b, fRd_fmt5b, fImm8_fmt5b, fPa_fmt5b, fPb_fmt5b]
    rfl
  | testbit => rw [encode, decode, fOpcode_fmt5b, fP_fmt5b, fRd_fmt5b, fImm8_fmt5b, fPa_fmt5b, fPb_fmt5b]; rfl
  | changepr | changeprLd =>
    rw [encode, decode, fOpcode_fmt5b, fP_fmt5b, fRd_fmt5b, fImm8_fmt5b, fPa_fmt5b, fPb_fmt5b, fLow4_fmt5b]
    rfl
  | load1 | load2 | load4 | load1Update | load2Update | load4Update
  | store1 | store2 | store4 | store1Update | store2Update | store4Update
  | addi | subi | andi | ori | xori | slli | srli | srai =>
    rw [encode, decode, fOpcode_fmt2, fP_fmt2, fRd_fmt2, fRs1_fmt2, fImm13_fmt2]
    rfl
  | load8 | load8Update | store8 | store8Update =>
    rw [encode, decode, fOpcode_fmt2, fP_fmt2, fRd_fmt2, fRs1_fmt2, fImm13_fmt2]
    exact existsFrom64_of_wf rfl hwf
  | extract | deposit =>
    rw [encode, decode, fOpcode_fmt3, fP_fmt3, fRd_fmt3, fRs1_fmt3, fImm7_fmt3, fImm6_fmt3]
    rfl
  | shrp => rw [encode, decode, fOpcode_fmt4c, fP_fmt4c, fRd_fmt4c, fRs1_fmt4c, fRs2_fmt4c, fImm8c_fmt4c]; rfl
  | muxRev | muxMix | muxShuf | muxAlt | muxBrcst =>
    rw [encode, decode, fOpcode_fmt4b]
    refine (if_pos (fImm5_fmt4b ..)).trans ?_
    rw [decodeMux, fSwc_fmt4b, fVar_fmt4b, fSa_fmt4b, fP_fmt4b, fRd_fmt4b, fRs1_fmt4b]
    rfl
  | pshifti2L | pshifti4L | pshifti2R | pshifti4R | pshifti2Ra | pshifti4Ra =>
    rw [encode, decode, fOpcode_fmt4b]
    change decodePshifti x _ = _
    rw [decodePshifti, fSwc_fmt4b, fVar_fmt4b, fSa_fmt4b, fP_fmt4b, fRd_fmt4b, fRs1_fmt4b, fImm5_fmt4b]
    rfl
  | pshifti8L | pshifti8R | pshifti8Ra =>
    rw [encode, decode, fOpcode_fmt4b]
    change decodePshifti x _ = _
    rw [decodePshifti, fSwc_fmt4b, fVar_fmt4b, fSa_fmt4b, fP_fmt4b, fRd_fmt4b, fRs1_fmt4b, fImm5_fmt4b]
    exact existsFrom64_of_wf rfl hwf
  | notReg =>
    rw [encode, decode, fOpcode_fmt4a]
    change decodeNot _ = _
    rw [decodeNot, fSwc_fmt4a, fVar_fmt4a, fSa_fmt4a, fP_fmt4a, fRd_fmt4a, fRs1_fmt4a]
    rfl
  | mix1L | mix2L | mix1R | mix2R =>
    rw [encode, decode, fOpcode_fmt4a]
    change decodeMix x _ = _
    rw [decodeMix, fSwc_fmt4a, fVar_fmt4a, fSa_fmt4a, fP_fmt4a, fRd_fmt4a, fRs1_fmt4a,
      fRs2_fmt4a]
    rfl
  | mix4L | mix4R =>
    rw [encode, decode, fOpcode_fmt4a]
    change decodeMix x _ = _
    rw [decodeMix, fSwc_fmt4a, fVar_fmt4a, fSa_fmt4a, fP_fmt4a, fRd_fmt4a, fRs1_fmt4a,
      fRs2_fmt4a]
    exact existsFrom64_of_wf rfl hwf
  | perm =>
    rw [encode, decode, fOpcode_fmt4a]
    change decodePerm _ = _
    rw [decodePerm, fSwc_fmt4a, fVar_fmt4a, fSa_fmt4a, fP_fmt4a, fRd_fmt4a, fRs1_fmt4a,
      fRs2_fmt4a]
    rfl
  | padd1 | padd2 | padd4 | padd1U | padd2U | padd4U | padd1S | padd2S | padd4S =>
    rw [encode, decode, fOpcode_fmt4a]
    change decodePadd x _ = _
    rw [decodePadd, fSwc_fmt4a, fVar_fmt4a, fSa_fmt4a, fP_fmt4a, fRd_fmt4a, fRs1_fmt4a,
      fRs2_fmt4a]
    rfl
  | padd8 | padd8U | padd8S =>
    rw [encode, decode, fOpcode_fmt4a]
    change decodePadd x _ = _
    rw [decodePadd, fSwc_fmt4a, fVar_fmt4a, fSa_fmt4a, fP_fmt4a, fRd_fmt4a, fRs1_fmt4a,
      fRs2_fmt4a]
    exact existsFrom64_of_wf rfl hwf
  | paddincr1 | paddincr2 | paddincr4 =>
    rw [encode, decode, fOpcode_fmt4a]
    change decodePaddincr x _ = _
    rw [decodePaddincr, fSwc_fmt4a, fVar_fmt4a, fSa_fmt4a, fP_fmt4a, fRd_fmt4a, fRs1_fmt4a,
      fRs2_fmt4a]
    rfl
  | paddincr8 =>
    rw [encode, decode, fOpcode_fmt4a]
    change decodePaddincr x _ = _
    rw [decodePaddincr, fSwc_fmt4a, fVar_fmt4a, fSa_fmt4a, fP_fmt4a, fRd_fmt4a, fRs1_fmt4a,
      fRs2_fmt4a]
    exact existsFrom64_of_wf rfl hwf
  | psub1 | psub2 | psub4 | psub1U | psub2U | psub4U | psub1S | psub2S | psub4S =>
    rw [encode, decode, fOpcode_fmt4a]
    change decodePsub x _ = _
    rw [decodePsub, fSwc_fmt4a, fVar_fmt4a, fSa_fmt4a, fP_fmt4a, fRd_fmt4a, fRs1_fmt4a,
      fRs2_fmt4a]
    rfl
  | psub8 | psub8U | psub8S =>
    rw [encode, decode, fOpcode_fmt4a]
    change decodePsub x _ = _
    rw [decodePsub, fSwc_fmt4a, fVar_fmt4a, fSa_fmt4a, fP_fmt4a, fRd_fmt4a, fRs1_fmt4a,
      fRs2_fmt4a]
    exact existsFrom64_of_wf rfl hwf
  | psubdecr1 | psubdecr2 | psubdecr4 =>
    rw [encode, decode, fOpcode_fmt4a]
    change decodePsubdecr x _ = _
    rw [decodePsubdecr, fSwc_fmt4a, fVar_fmt4a, fSa_fmt4a, fP_fmt4a, fRd_fmt4a, fRs1_fmt4a,
      fRs2_fmt4a]
    rfl
  | psubdecr8 =>
    rw [encode, decode, fOpcode_fmt4a]
    change decodePsubdecr x _ = _
    rw [decodePsubdecr, fSwc_fmt4a, fVar_fmt4a, fSa_fmt4a, fP_fmt4a, fRd_fmt4a, fRs1_fmt4a,
      fRs2_fmt4a]
    exact existsFrom64_of_wf rfl hwf
  | pavg1 | pavg2 | pavg1Raz | pavg2Raz =>
    rw [encode, decode, fOpcode_fmt4a]
    change decodePavg _ = _
    rw [decodePavg, fSwc_fmt4a, fVar_fmt4a, fSa_fmt4a, fP_fmt4a, fRd_fmt4a, fRs1_fmt4a,
      fRs2_fmt4a]
    rfl
  | psubavg1 | psubavg2 =>
    rw [encode, decode, fOpcode_fmt4a]
    change decodePsubavg _ = _
    rw [decodePsubavg, fSwc_fmt4a, fVar_fmt4a, fSa_fmt4a, fP_fmt4a, fRd_fmt4a, fRs1_fmt4a,
      fRs2_fmt4a]
    rfl
  | andReg =>
    rw [encode, decode, fOpcode_fmt4a]
    change decodeAnd _ = _
    rw [decodeAnd, fSwc_fmt4a, fVar_fmt4a, fSa_fmt4a, fP_fmt4a, fRd_fmt4a, fRs1_fmt4a,
      fRs2_fmt4a]
    rfl
  | andcm =>
    rw [encode, decode, fOpcode_fmt4a]
    change decodeAndcm _ = _
    rw [decodeAndcm, fSwc_fmt4a, fVar_fmt4a, fSa_fmt4a, fP_fmt4a, fRd_fmt4a, fRs1_fmt4a,
      fRs2_fmt4a]
    rfl
  | orReg =>
    rw [encode, decode, fOpcode_fmt4a]
    change decodeOr _ = _
    rw [decodeOr, fSwc_fmt4a, fVar_fmt4a, fSa_fmt4a, fP_fmt4a, fRd_fmt4a, fRs1_fmt4a,
      fRs2_fmt4a]
    rfl
  | xorReg =>
    rw [encode, decode, fOpcode_fmt4a]
    change decodeXor _ = _
    rw [decodeXor, fSwc_fmt4a, fVar_fmt4a, fSa_fmt4a, fP_fmt4a, fRd_fmt4a, fRs1_fmt4a,
      fRs2_fmt4a]
    rfl
  | pcmp1Eq | pcmp2Eq | pcmp4Eq | pcmp1Gt | pcmp2Gt | pcmp4Gt =>
    rw [encode, decode, fOpcode_fmt4a]
    change decodePcmp x _ = _
    rw [decodePcmp, fSwc_fmt4a, fVar_fmt4a, fSa_fmt4a, fP_fmt4a, fRd_fmt4a, fRs1_fmt4a,
      fRs2_fmt4a]
    rfl
  | pcmp8Eq | pcmp8Gt =>
    rw [encode, decode, fOpcode_fmt4a]
    change decodePcmp x _ = _
    rw [decodePcmp, fSwc_fmt4a, fVar_fmt4a, fSa_fmt4a, fP_fmt4a, fRd_fmt4a, fRs1_fmt4a,
      fRs2_fmt4a]
    exact existsFrom64_of_wf rfl hwf
  | pmax1 | pmax2 =>
    rw [encode, decode, fOpcode_fmt4a]
    change decodePmax _ = _
    rw [decodePmax, fSwc_fmt4a, fVar_fmt4a, fSa_fmt4a, fP_fmt4a, fRd_fmt4a, fRs1_fmt4a,
      fRs2_fmt4a]
    rfl
  | pmin1 | pmin2 =>
    rw [encode, decode, fOpcode_fmt4a]
    change decodePmin _ = _
    rw [decodePmin, fSwc_fmt4a, fVar_fmt4a, fSa_fmt4a, fP_fmt4a, fRd_fmt4a, fRs1_fmt4a,
      fRs2_fmt4a]
    rfl
  | pshiftadd1L | pshiftadd2L | pshiftadd3L | pshiftadd1R | pshiftadd2R | pshiftadd3R =>
    rw [encode, decode, fOpcode_fmt4a]
    change decodePshiftadd _ = _
    rw [decodePshiftadd, fSwc_fmt4a, fVar_fmt4a, fSa_fmt4a, fP_fmt4a, fRd_fmt4a, fRs1_fmt4a,
      fRs2_fmt4a]
    rfl
  | pmulOdd | pmulEven =>
    rw [encode, decode, fOpcode_fmt4a]
    change decodePmul _ = _
    rw [decodePmul, fSwc_fmt4a, fVar_fmt4a, fSa_fmt4a, fP_fmt4a, fRd_fmt4a, fRs1_fmt4a,
      fRs2_fmt4a]
    rfl
  | pmulshr0 | pmulshr8 | pmulshr15 | pmulshr16 | pmulshr0A | pmulshr8A | pmulshr15A | pmulshr16A =>
    rw [encode, decode, fOpcode_fmt4a]
    change decodePmulshr _ = _
    rw [decodePmulshr, fSwc_fmt4a, fVar_fmt4a, fSa_fmt4a, fP_fmt4a, fRd_fmt4a, fRs1_fmt4a,
      fRs2_fmt4a]
    rfl
  | pshift2L | pshift4L | pshift2R | pshift4R | pshift2Ra | pshift4Ra =>
    rw [encode, decode, fOpcode_fmt4a]
    change decodePshift x _ = _
    rw [decodePshift, fSwc_fmt4a, fVar_fmt4a, fSa_fmt4a, fP_fmt4a, fRd_fmt4a, fRs1_fmt4a,
      fRs2_fmt4a]
    rfl
  | pshift8L | pshift8R | pshift8Ra =>
    rw [encode, decode, fOpcode_fmt4a]
    change decodePshift x _ = _
    rw [decodePshift, fSwc_fmt4a, fVar_fmt4a, fSa_fmt4a, fP_fmt4a, fRd_fmt4a, fRs1_fmt4a,
      fRs2_fmt4a]
    exact existsFrom64_of_wf rfl hwf

end Sys2Proof.Machine
end

section
/-! PROOFS. The encoder undoes the decoder (30_encoding.md section 5): the fields that the decoder reads, placed again,
are the word read, except in the fields that instructions ignore (R100). -/

namespace Sys2Proof.Machine
open Sys2Proof

/-! ### The fields of a word, placed again: each is the word under the mask of the field -/

theorem place_extract (lo n : Nat) (w : IWord) :
    place lo (w.extractLsb' lo n) = w &&& place lo (BitVec.allOnes n) := by
  apply BitVec.eq_of_getLsbD_eq
  intro i hi
  simp only [place, BitVec.getLsbD_and, BitVec.getLsbD_shiftLeft, BitVec.getLsbD_setWidth, BitVec.getLsbD_extractLsb',
    BitVec.getLsbD_allOnes, decide_eq_true hi, Bool.true_and]
  by_cases hlo : i < lo
  · simp [hlo]
  · rw [show lo + (i - lo) = i by omega, Bool.and_comm (decide (i - lo < n))]
    simp [Bool.and_left_comm]

/-- A field that reads `v` holds it under the mask of the field. -/
theorem place_of_extract {lo n : Nat} {v : BitVec n} {w : IWord} (h : w.extractLsb' lo n = v) :
    place lo v = w &&& place lo (BitVec.allOnes n) := by
  rw [← h, place_extract]

theorem placePred_fP (w : IWord) : placePred 23 (fP w) = w &&& 0x03800000#32 := place_extract 23 3 w
theorem placeReg_fRd (w : IWord) : placeReg 18 (fRd w) = w &&& 0x007C0000#32 := place_extract 18 5 w
theorem placeReg_fRs1 (w : IWord) : placeReg 13 (fRs1 w) = w &&& 0x0003E000#32 := place_extract 13 5 w
theorem placeReg_fRs2 (w : IWord) : placeReg 8 (fRs2 w) = w &&& 0x00001F00#32 := place_extract 8 5 w
theorem placePred_fPa (w : IWord) : placePred 7 (fPa w) = w &&& 0x00000380#32 := place_extract 7 3 w
theorem placePred_fPb (w : IWord) : placePred 4 (fPb w) = w &&& 0x00000070#32 := place_extract 4 3 w

/-! ### The formats, over the fields of a word with their opcode -/

section Formats
variable {w : IWord} {op : BitVec 6} (hop : fOpcode w = op.toNat)
include hop

theorem header_eq : header op (fP w) = w &&& 0xFF800000#32 := by
  rw [header, place_of_extract (BitVec.eq_of_toNat_eq hop), placePred_fP, ← BitVec.and_or_distrib_left]
  rfl

theorem fmt0_eq : fmt0 op (fP w) (fImm23 w) = w := by
  rw [fmt0, header_eq hop, fImm23, place_extract, ← BitVec.and_or_distrib_left]
  exact BitVec.and_allOnes

/-- Format 0 with zeros in imm23 (trap). -/
theorem fmt0_zero_eq : fmt0 op (fP w) 0 = w &&& ~~~0x007FFFFF#32 := by
  rw [fmt0, header_eq hop, show place 0 (0 : BitVec 23) = 0#32 from rfl, BitVec.or_zero]
  rfl

theorem fmt1_eq {imm18 : BitVec 18} (himm : w.extractLsb' 0 18 = imm18) : fmt1 op (fP w) (fRd w) imm18 = w := by
  rw [fmt1, header_eq hop, placeReg_fRd, place_of_extract himm, ← BitVec.and_or_distrib_left,
    ← BitVec.and_or_distrib_left]
  exact BitVec.and_allOnes

/-- Format 1 with zeros in the two high bits of imm18 (loadi). -/
theorem fmt1_imm16_eq : fmt1 op (fP w) (fRd w) ((fImm16 w).setWidth 18) = w &&& ~~~0x00030000#32 := by
  have himm : place 0 ((fImm16 w).setWidth 18) = w &&& 0x0000FFFF#32 := by
    rw [← show place 0 (fImm16 w) = w &&& 0x0000FFFF#32 from place_extract 0 16 w]
    simp [place]
  rw [fmt1, header_eq hop, placeReg_fRd, himm, ← BitVec.and_or_distrib_left, ← BitVec.and_or_distrib_left]
  rfl

theorem fmt2_eq : fmt2 op (fP w) (fRd w) (fRs1 w) (fImm13 w) = w := by
  rw [fmt2, header_eq hop, placeReg_fRd, placeReg_fRs1, fImm13, place_extract, ← BitVec.and_or_distrib_left,
    ← BitVec.and_or_distrib_left, ← BitVec.and_or_distrib_left]
  exact BitVec.and_allOnes

theorem fmt3_eq : fmt3 op (fP w) (fRd w) (fRs1 w) (fImm7 w) (fImm6 w) = w := by
  rw [fmt3, header_eq hop, placeReg_fRd, placeReg_fRs1, fImm7, fImm6, place_extract, place_extract]
  simp only [← BitVec.and_or_distrib_left]
  exact BitVec.and_allOnes

theorem fmt4c_eq : fmt4c op (fP w) (fRd w) (fRs1 w) (fRs2 w) (fImm8c w) = w := by
  rw [fmt4c, header_eq hop, placeReg_fRd, placeReg_fRs1, placeReg_fRs2, fImm8c, place_extract]
  simp only [← BitVec.and_or_distrib_left]
  exact BitVec.and_allOnes

section Rows
variable {swc : BitVec 2} {var sa : BitVec 3} (hs : (fSwc w).toNat = swc.toNat) (hv : (fVar w).toNat = var.toNat)
  (ha : (fSa w).toNat = sa.toNat)
include hs hv ha

theorem fmt4a_eq : fmt4a op (fP w) (fRd w) (fRs1 w) (fRs2 w) swc var sa = w := by
  rw [fmt4a, header_eq hop, placeReg_fRd, placeReg_fRs1, placeReg_fRs2, place_of_extract (BitVec.eq_of_toNat_eq hs),
    place_of_extract (BitVec.eq_of_toNat_eq hv), place_of_extract (BitVec.eq_of_toNat_eq ha)]
  simp only [← BitVec.and_or_distrib_left]
  exact BitVec.and_allOnes

/-- Format 4a with zeros in Rs2 (not). -/
theorem fmt4a_zero_eq : fmt4a op (fP w) (fRd w) (fRs1 w) 0 swc var sa = w &&& ~~~0x00001F00#32 := by
  rw [fmt4a, header_eq hop, placeReg_fRd, placeReg_fRs1, show placeReg 8 0 = 0#32 from rfl, BitVec.or_zero,
    place_of_extract (BitVec.eq_of_toNat_eq hs), place_of_extract (BitVec.eq_of_toNat_eq hv),
    place_of_extract (BitVec.eq_of_toNat_eq ha)]
  simp only [← BitVec.and_or_distrib_left]
  rfl

theorem fmt4b_eq {imm5 : BitVec 5} (himm : fImm5 w = imm5) :
    fmt4b op (fP w) (fRd w) (fRs1 w) imm5 swc var sa = w := by
  rw [fmt4b, header_eq hop, placeReg_fRd, placeReg_fRs1, place_of_extract himm,
    place_of_extract (BitVec.eq_of_toNat_eq hs), place_of_extract (BitVec.eq_of_toNat_eq hv),
    place_of_extract (BitVec.eq_of_toNat_eq ha)]
  simp only [← BitVec.and_or_distrib_left]
  exact BitVec.and_allOnes

end Rows

/-- Format 5a, where bits 12 to 10 read 0 as cmp requires. -/
theorem fmt5a_eq {rel : BitVec 4} (hz : w.extractLsb' 10 3 = 0) (hr : (fLow4 w).toNat = rel.toNat) :
    fmt5a op (fP w) (fRd w) (fRs1 w) (fPa w) (fPb w) rel = w := by
  have hunused : w &&& 0x00001C00#32 = 0#32 := (place_of_extract hz).symm
  rw [fmt5a, header_eq hop, placeReg_fRd, placeReg_fRs1, placePred_fPa, placePred_fPb,
    place_of_extract (BitVec.eq_of_toNat_eq hr), ← BitVec.or_zero (x := _ ||| _), ← hunused]
  simp only [← BitVec.and_or_distrib_left]
  exact BitVec.and_allOnes

section Format5b
variable {rs1 : Reg} {pa pb : Pred} (hrd : fRd w = rs1) (hpa : fPa w = pa) (hpb : fPb w = pb)
include hrd hpa hpb

theorem fmt5b_eq {low : BitVec 4} (hl : (fLow4 w).toNat = low.toNat) :
    fmt5b op (fP w) rs1 (fImm8 w) pa pb low = w := by
  rw [fmt5b, header_eq hop, ← hrd, placeReg_fRd, ← hpa, placePred_fPa, ← hpb, placePred_fPb, fImm8, place_extract,
    place_of_extract (BitVec.eq_of_toNat_eq hl)]
  simp only [← BitVec.and_or_distrib_left]
  exact BitVec.and_allOnes

/-- Format 5b with zeros in the low field (testbit). -/
theorem fmt5b_low_zero_eq : fmt5b op (fP w) rs1 (fImm8 w) pa pb 0 = w &&& ~~~0x0000000F#32 := by
  rw [fmt5b, header_eq hop, ← hrd, placeReg_fRd, ← hpa, placePred_fPa, ← hpb, placePred_fPb, fImm8, place_extract,
    show place 0 (0 : BitVec 4) = 0#32 from rfl, BitVec.or_zero]
  simp only [← BitVec.and_or_distrib_left]
  rfl

/-- Format 5b with zeros in imm8 (changepr). -/
theorem fmt5b_imm8_zero_eq : fmt5b op (fP w) rs1 0 pa pb (fLow4 w) = w &&& ~~~0x0003FC00#32 := by
  rw [fmt5b, header_eq hop, ← hrd, placeReg_fRd, ← hpa, placePred_fPa, ← hpb, placePred_fPb, fLow4, place_extract,
    show place 10 (0 : BitVec 8) = 0#32 from rfl, BitVec.or_zero]
  simp only [← BitVec.and_or_distrib_left]
  rfl

end Format5b

end Formats

/-! ### The rows of the decoders -/

/-- The instruction exists at the register size and its word is `v`. -/
def Reencodes (x : Xlen) (i : Instr) (v : IWord) : Prop := i.wf x = true ∧ encode i = v

theorem reencodes_of_minXlen {x : Xlen} {i : Instr} {v : IWord} (hmin : i.minXlen = 32) (hword : encode i = v) :
    Reencodes x i v :=
  ⟨by rw [Instr.wf_iff, hmin]; cases x <;> decide, hword⟩

theorem reencodes_of_ok {x : Xlen} {i j : Instr} {v : IWord} (h : (.ok j : Except DecodeError Instr) = .ok i)
    (hmin : j.minXlen = 32) (hword : encode j = v) : Reencodes x i v := by
  cases h
  exact reencodes_of_minXlen hmin hword

/-- A row for the 64-bit machine alone (R105). -/
theorem reencodes_of_existsFrom64 {x : Xlen} {i j : Instr} {v : IWord} (h : existsFrom64 x j = .ok i)
    (hmin : j.minXlen = 64) (hword : encode j = v) : Reencodes x i v := by
  cases x with
  | x64 => cases h; exact ⟨by rw [Instr.wf_iff, hmin]; decide, hword⟩
  | x32 => cases h

section Families
variable {x : Xlen} {w : IWord} {i : Instr}

theorem decodeCmp_ok (hop : fOpcode w = 0x08) (hz : w.extractLsb' 10 3 = 0) (h : decodeCmp w = .ok i) :
    Reencodes x i w := by
  unfold decodeCmp at h
  split at h
  case h_11 => cases h
  all_goals
    rename_i hr
    exact reencodes_of_ok h rfl (fmt5a_eq hop hz hr)

theorem decodeCmpi_ok (hop : fOpcode w = 0x09) (h : decodeCmpi w = .ok i) : Reencodes x i w := by
  unfold decodeCmpi at h
  split at h
  case h_11 => cases h
  all_goals
    rename_i hr
    exact reencodes_of_ok h rfl (fmt5b_eq hop rfl rfl rfl hr)

theorem decodeMix_ok (hop : fOpcode w = 0x0D) (h : decodeMix x w = .ok i) : Reencodes x i w := by
  unfold decodeMix at h
  split at h
  case h_3 hs hv ha | h_6 hs hv ha => exact reencodes_of_existsFrom64 h rfl (fmt4a_eq hop hs hv ha)
  case h_7 => cases h
  all_goals
    rename_i hs hv ha
    exact reencodes_of_ok h rfl (fmt4a_eq hop hs hv ha)

theorem decodeMux_ok (hop : fOpcode w = 0x0E) (hz : fImm5 w = 0) (h : decodeMux w = .ok i) : Reencodes x i w := by
  unfold decodeMux at h
  split at h
  case h_6 => cases h
  all_goals
    rename_i hs hv ha
    exact reencodes_of_ok h rfl (fmt4b_eq hop hs hv ha hz)

theorem decodePadd_ok (hop : fOpcode w = 0x2B) (h : decodePadd x w = .ok i) : Reencodes x i w := by
  unfold decodePadd at h
  split at h
  case h_4 hs hv ha | h_8 hs hv ha | h_12 hs hv ha => exact reencodes_of_existsFrom64 h rfl (fmt4a_eq hop hs hv ha)
  case h_13 => cases h
  all_goals
    rename_i hs hv ha
    exact reencodes_of_ok h rfl (fmt4a_eq hop hs hv ha)

theorem decodePaddincr_ok (hop : fOpcode w = 0x2C) (h : decodePaddincr x w = .ok i) : Reencodes x i w := by
  unfold decodePaddincr at h
  split at h
  case h_4 hs hv ha => exact reencodes_of_existsFrom64 h rfl (fmt4a_eq hop hs hv ha)
  case h_5 => cases h
  all_goals
    rename_i hs hv ha
    exact reencodes_of_ok h rfl (fmt4a_eq hop hs hv ha)

theorem decodePsub_ok (hop : fOpcode w = 0x2D) (h : decodePsub x w = .ok i) : Reencodes x i w := by
  unfold decodePsub at h
  split at h
  case h_4 hs hv ha | h_8 hs hv ha | h_12 hs hv ha => exact reencodes_of_existsFrom64 h rfl (fmt4a_eq hop hs hv ha)
  case h_13 => cases h
  all_goals
    rename_i hs hv ha
    exact reencodes_of_ok h rfl (fmt4a_eq hop hs hv ha)

theorem decodePsubdecr_ok (hop : fOpcode w = 0x2E) (h : decodePsubdecr x w = .ok i) : Reencodes x i w := by
  unfold decodePsubdecr at h
  split at h
  case h_4 hs hv ha => exact reencodes_of_existsFrom64 h rfl (fmt4a_eq hop hs hv ha)
  case h_5 => cases h
  all_goals
    rename_i hs hv ha
    exact reencodes_of_ok h rfl (fmt4a_eq hop hs hv ha)

theorem decodeNot_ok (hop : fOpcode w = 0x35) (h : decodeNot w = .ok i) : Reencodes x i (w &&& ~~~0x00001F00#32) := by
  unfold decodeNot at h
  split at h
  case h_2 => cases h
  all_goals
    rename_i hs hv ha
    exact reencodes_of_ok h rfl (fmt4a_zero_eq hop hs hv ha)

theorem decodePcmp_ok (hop : fOpcode w = 0x36) (h : decodePcmp x w = .ok i) : Reencodes x i w := by
  unfold decodePcmp at h
  split at h
  case h_4 hs hv ha | h_8 hs hv ha => exact reencodes_of_existsFrom64 h rfl (fmt4a_eq hop hs hv ha)
  case h_9 => cases h
  all_goals
    rename_i hs hv ha
    exact reencodes_of_ok h rfl (fmt4a_eq hop hs hv ha)

theorem decodePshift_ok (hop : fOpcode w = 0x3C) (h : decodePshift x w = .ok i) : Reencodes x i w := by
  unfold decodePshift at h
  split at h
  case h_3 hs hv ha | h_6 hs hv ha | h_9 hs hv ha => exact reencodes_of_existsFrom64 h rfl (fmt4a_eq hop hs hv ha)
  case h_10 => cases h
  all_goals
    rename_i hs hv ha
    exact reencodes_of_ok h rfl (fmt4a_eq hop hs hv ha)

theorem decodePshifti_ok (hop : fOpcode w = 0x3D) (h : decodePshifti x w = .ok i) : Reencodes x i w := by
  unfold decodePshifti at h
  split at h
  case h_3 hs hv ha | h_6 hs hv ha | h_9 hs hv ha => exact reencodes_of_existsFrom64 h rfl (fmt4b_eq hop hs hv ha rfl)
  case h_10 => cases h
  all_goals
    rename_i hs hv ha
    exact reencodes_of_ok h rfl (fmt4b_eq hop hs hv ha rfl)

end Families

/-! ### The decoder -/

theorem ite_error_ok {c : Prop} [Decidable c] {d : Except DecodeError Instr} {e : DecodeError} {i : Instr}
    (h : (if c then d else .error e) = .ok i) : c ∧ d = .ok i := by
  split at h
  · exact ⟨by assumption, h⟩
  · cases h

/-- A word that decodes, with its ignored fields cleared, is the word of the instruction. -/
theorem decode_ok {x : Xlen} {w : IWord} {i : Instr} (h : decode x w = .ok i) :
    Reencodes x i (w &&& ~~~(ignoredMask w)) := by
  unfold decode at h
  split at h
  all_goals rename_i hop
  case h_62 => cases h
  all_goals rw [ignoredMask, hop]
  case h_3 => exact reencodes_of_ok h rfl (fmt0_zero_eq hop)
  case h_6 | h_7 => exact reencodes_of_ok h rfl (fmt1_imm16_eq hop)
  case h_10 => exact reencodes_of_ok h rfl (fmt5b_low_zero_eq hop rfl rfl rfl)
  case h_11 =>
    obtain ⟨⟨hrd, hpa, hpb⟩, h⟩ := ite_error_ok h
    exact reencodes_of_ok h rfl (fmt5b_imm8_zero_eq hop hrd hpa hpb)
  case h_53 => exact decodeNot_ok hop h
  all_goals
    change Reencodes x i (w &&& ~~~0#32)
    rw [BitVec.not_zero, BitVec.and_allOnes]
  case h_1 | h_2 => exact reencodes_of_ok h rfl (fmt0_eq hop)
  case h_4 | h_5 =>
    obtain ⟨hz, h⟩ := ite_error_ok h
    exact reencodes_of_ok h rfl (fmt1_eq hop hz)
  case h_8 =>
    obtain ⟨hz, h⟩ := ite_error_ok h
    exact decodeCmp_ok hop hz h
  case h_12 =>
    obtain ⟨⟨hrd, hpa, hpb⟩, h⟩ := ite_error_ok h
    exact reencodes_of_ok h rfl (fmt5b_eq hop hrd hpa hpb rfl)
  case h_14 =>
    obtain ⟨hz, h⟩ := ite_error_ok h
    exact decodeMux_ok hop hz h
  case h_40 => exact reencodes_of_ok h rfl (fmt4c_eq hop)
  case h_41 | h_42 => exact reencodes_of_ok h rfl (fmt3_eq hop)
  case h_19 | h_23 | h_27 | h_31 => exact reencodes_of_existsFrom64 h rfl (fmt2_eq hop)
  case h_9 => exact decodeCmpi_ok hop h
  case h_13 => exact decodeMix_ok hop h
  case h_15 | h_47 | h_48 | h_49 | h_50 | h_51 | h_52 | h_55 | h_56 | h_57 | h_58 | h_59 =>
    -- the packed families all of whose rows exist at both register sizes
    simp only [decodePerm, decodePavg, decodePsubavg, decodeAnd, decodeAndcm, decodeOr, decodeXor, decodePmax,
      decodePmin, decodePshiftadd, decodePmul, decodePmulshr] at h
    split at h
    all_goals cases h
    all_goals
      rename_i hs hv ha
      exact reencodes_of_minXlen rfl (fmt4a_eq hop hs hv ha)
  case h_43 => exact decodePadd_ok hop h
  case h_44 => exact decodePaddincr_ok hop h
  case h_45 => exact decodePsub_ok hop h
  case h_46 => exact decodePsubdecr_ok hop h
  case h_54 => exact decodePcmp_ok hop h
  case h_60 => exact decodePshift_ok hop h
  case h_61 => exact decodePshifti_ok hop h
  all_goals exact reencodes_of_ok h rfl (fmt2_eq hop)

/-- Under every ENCODING a word decodes only to an instruction that exists at the register size. -/
theorem decodeUnder_wf {e : Encoding} {x : Xlen} {w : BitVec 32} {i : Instr} (h : decodeUnder e x w = .ok i) :
    i.wf x = true := by
  cases e with
  | reference => exact And.left (decode_ok h)
  | table rows => exact And.right (decodeUnder_table_ok h)

/-- Settles O4: the reference encoding by `decode_ok`, every ENCODING by `decodeUnder_wf`. -/
theorem decodedWordReencodes : Obligations.DecodedWordReencodes :=
  ⟨fun _ _ _ h => decode_ok h, fun _ _ => rfl, fun _ _ _ _ h => decodeUnder_wf h⟩

end Sys2Proof.Machine
end

section
/-! PROOFS. The front end of a step: the checks of a fetch in their order, and the word that the four bytes at the pc
spell (10_state.md R25, 60_exceptions.md R312). -/

namespace Sys2Proof.Machine
open Sys2Proof

/-! ### The lowest address that fails a check -/

/-- The lowest of the n addresses from a at which a check fails. -/
def firstFailing (check : Nat → Bool) : Nat → Nat → Option Nat
  | _, 0 => none
  | a, n + 1 => if check a then firstFailing check (a + 1) n else some a

theorem firstUnmapped_eq_firstFailing (c : Config) (a n : Nat) : firstUnmapped c a n = firstFailing c.mapped a n := by
  induction n generalizing a with
  | zero => rfl
  | succ n ih => rw [firstUnmapped, firstFailing, ih]

theorem firstUnwritten_eq_firstFailing (s : State) (a n : Nat) :
    firstUnwritten s a n = firstFailing (fun b => (s.readByte b).isSome) a n := by
  induction n generalizing a with
  | zero => rfl
  | succ n ih => rw [firstUnwritten, firstFailing, ih]

theorem firstFailing_eq_some {check : Nat → Bool} {a n j : Nat} (hj : j < n)
    (hbefore : ∀ k, k < j → check (a + k) = true) (hat : check (a + j) = false) :
    firstFailing check a n = some (a + j) := by
  induction n generalizing a j with
  | zero => omega
  | succ n ih =>
    rw [firstFailing]
    cases j with
    | zero => rw [Nat.add_zero] at hat ⊢; simp [hat]
    | succ j =>
      have hnext := ih (a := a + 1) (j := j) (by omega)
        (fun k hk => by have := hbefore (k + 1) (by omega); rwa [show a + (k + 1) = a + 1 + k by omega] at this)
        (by rwa [show a + (j + 1) = a + 1 + j by omega] at hat)
      have hfirst : check a = true := hbefore 0 (by omega)
      rw [if_pos hfirst, hnext, show a + 1 + j = a + (j + 1) by omega]

/-- The address that an AccessFault names (60_exceptions.md R305). -/
theorem firstUnmapped_eq_some {c : Config} {a n j : Nat} (hj : j < n)
    (hbefore : ∀ k, k < j → c.mapped (a + k) = true) (hat : c.mapped (a + j) = false) :
    firstUnmapped c a n = some (a + j) :=
  (firstUnmapped_eq_firstFailing c a n).trans (firstFailing_eq_some hj hbefore hat)

/-- The address that an uninitialisedFetch names (log 57). -/
theorem firstUnwritten_eq_some {s : State} {a n j : Nat} (hj : j < n)
    (hbefore : ∀ k, k < j → s.readByte (a + k) ≠ none) (hat : s.readByte (a + j) = none) :
    firstUnwritten s a n = some (a + j) :=
  (firstUnwritten_eq_firstFailing s a n).trans
    (firstFailing_eq_some hj (fun k hk => Option.isSome_iff_ne_none.mpr (hbefore k hk)) (by simp [hat]))

/-! ### The word of four bytes (20_memory.md R62) -/

theorem toNat_append_byte {m : Nat} (x : BitVec m) (b : Byte) : (x ++ b).toNat = x.toNat * 256 + b.toNat := by
  rw [BitVec.toNat_append, ← Nat.shiftLeft_add_eq_or_of_lt b.isLt, Nat.shiftLeft_eq]

theorem wordOfBytes_eq_wordFrom (o : ByteOrder) (b0 b1 b2 b3 : Byte) :
    wordOfBytes o [b0, b1, b2, b3] = wordFrom o b0 b1 b2 b3 := by
  have hbig (c0 c1 c2 c3 : Byte) : BitVec.ofNat 32 (bytesToNatBig [c0, c1, c2, c3]) = c0 ++ c1 ++ c2 ++ c3 := by
    have hspell : bytesToNatBig [c0, c1, c2, c3] = (c0 ++ c1 ++ c2 ++ c3).toNat := by
      simp only [bytesToNatBig, toNat_append_byte, List.length_cons, List.length_nil]
      omega
    rw [hspell, BitVec.ofNat_toNat, BitVec.setWidth_eq]
  cases o with
  | big => exact hbig b0 b1 b2 b3
  | little => exact hbig b3 b2 b1 b0

/-! ### The outcomes of a fetch -/

section Fetch
variable {s : State}

theorem fetchWord_of_misaligned (h : s.pcAddr % 4 ≠ 0) : fetchWord s = .error (.misalignedFetch s.pc) := if_pos h

variable (hal : s.pcAddr % 4 = 0)
include hal

theorem fetchWord_of_unmapped {a : Nat} (h : firstUnmapped s.cfg s.pcAddr 4 = some a) :
    fetchWord s = .error (.accessFault a) := by
  simp [fetchWord, hal, h]

variable (hmap : ∀ j, j < 4 → s.cfg.mapped (s.pcAddr + j) = true)
include hmap

theorem fetchWord_of_unwritten {a : Nat} (h : firstUnwritten s s.pcAddr 4 = some a) :
    fetchWord s = .error (.uninitialisedFetch a) := by
  simp [fetchWord, hal, (firstUnmapped_none ..).mpr hmap, h]

theorem fetchWord_of_bytes {b0 b1 b2 b3 : Byte} (h0 : s.readByte s.pcAddr = some b0)
    (h1 : s.readByte (s.pcAddr + 1) = some b1) (h2 : s.readByte (s.pcAddr + 2) = some b2)
    (h3 : s.readByte (s.pcAddr + 3) = some b3) : fetchWord s = .ok (wordFrom s.cfg.byteOrder b0 b1 b2 b3) := by
  have hwritten : firstUnwritten s s.pcAddr 4 = none := by simp [firstUnwritten, h0, h1, h2, h3]
  have hbytes : s.loadBytes s.pcAddr 4 = [b0, b1, b2, b3] := by simp [State.loadBytes, State.loadByte, h0, h1, h2, h3]
  simp [fetchWord, hal, (firstUnmapped_none ..).mpr hmap, hwritten, hbytes, wordOfBytes_eq_wordFrom]

end Fetch

/-! ### A step by its fetch -/

section Step
variable {s : State} (hrun : s.halted = false)
include hrun

theorem step_of_fetch_error {f : Fault} (h : fetchWord s = .error f) : step s = .fault f := by
  simp [step, frontEnd, hrun, h]

theorem step_of_decode_error {w : IWord} {e : DecodeError} (h : fetchWord s = .ok w)
    (hd : decodeUnder s.cfg.encoding s.cfg.xlen w = .error e) : step s = .fault (.illegalInstruction w) := by
  simp [step, frontEnd, hrun, h, hd]

theorem step_of_decode_ok {w : IWord} {i : Instr} (h : fetchWord s = .ok w)
    (hd : decodeUnder s.cfg.encoding s.cfg.xlen w = .ok i) : step s = exec i s := by
  simp [step, frontEnd, hrun, h, hd]

end Step

/-! ### The obligations -/

/-- Settles O2: each outcome of the fetch under the checks before it, and the step that it stops. -/
theorem fetchFaultsInOrder : Obligations.FetchFaultsInOrder := by
  intro s hrun
  refine ⟨fun hal => ?misaligned, fun j hal hj hbefore hat => ?unmapped, fun hal hmap =>
    ⟨fun j hj hbefore hat => ?unwritten, fun b0 b1 b2 b3 e h0 h1 h2 h3 hd => ?illegal⟩⟩
  case misaligned => exact step_of_fetch_error hrun (fetchWord_of_misaligned hal)
  case unmapped => exact step_of_fetch_error hrun (fetchWord_of_unmapped hal (firstUnmapped_eq_some hj hbefore hat))
  case unwritten =>
    exact step_of_fetch_error hrun (fetchWord_of_unwritten hal hmap (firstUnwritten_eq_some hj hbefore hat))
  case illegal => exact step_of_decode_error hrun (fetchWord_of_bytes hal hmap h0 h1 h2 h3) hd

/-- Settles O1: the fetch answers the word of the four bytes, and the front end runs what it decodes to. -/
theorem stepRunsDecodedInstruction : Obligations.StepRunsDecodedInstruction := by
  intro s i b0 b1 b2 b3 hrun hal hmap h0 h1 h2 h3 hd
  exact step_of_decode_ok hrun (fetchWord_of_bytes hal hmap h0 h1 h2 h3) hd

/-- Settles O6: each word is closed, and so is what the decoder answers for it. -/
theorem printedWordsDecode : Obligations.PrintedWordsDecode :=
  ⟨rfl, rfl, rfl, rfl, rfl, rfl, rfl, rfl, rfl, rfl, rfl, rfl, rfl, rfl, rfl, rfl, rfl, rfl⟩

/-- Settles O32: the displaced base as a number (`add_signExtend_eq_ofInt`); R0 reads 0. -/
theorem effectiveAddressWraps : Obligations.EffectiveAddressWraps := by
  intro s rs1 imm13
  have hsum (r : Reg) : s.effectiveAddress r imm13 = BitVec.ofInt s.xlen ((s.reg s.xlen r).toNat + imm13.toInt) :=
    add_signExtend_eq_ofInt _ _
  refine ⟨hsum rs1, ?_⟩
  rw [hsum, State.reg_zero, BitVec.toNat_zero, Nat.cast_zero, Int.zero_add]

end Sys2Proof.Machine
end

section
/-! PROOFS. The loads and stores by their word: which of the four operations runs, and how an access that is not
admitted ends (42_memory_access.md, 60_exceptions.md R305 to R308). -/

namespace Sys2Proof.Machine
open Sys2Proof

/-! ### The operation that a load or store runs -/

/-- The access size of a word of format 2 (30_encoding.md R97). -/
theorem accessBytes_fmt2 (op : BitVec 6) (p : Pred) (rd rs1 : Reg) (imm13 : BitVec 13) :
    accessBytes (fmt2 op p rd rs1 imm13) = 2 ^ (op.toNat % 4) := by
  rw [accessBytes, fOpcode_fmt2]

/-- The operation that a load or store runs, over the fields of its word. -/
inductive AccessForm (i : Instr) (s : State) : Prop where
  | load (hst : ¬ IsStore i) (hup : ¬ IsLoadUpdate i)
      (h : exec i s = load (accessBytes (encode i)) i.guardField (fRd (encode i)) (fRs1 (encode i))
        (fImm13 (encode i)) s)
  | loadUpdate (hst : ¬ IsStore i) (hup : IsLoadUpdate i)
      (h : exec i s = loadUpdate (accessBytes (encode i)) i.guardField (fRd (encode i)) (fRs1 (encode i))
        (fImm13 (encode i)) s)
  | store (hst : IsStore i) (hup : ¬ IsLoadUpdate i)
      (h : exec i s = store (accessBytes (encode i)) i.guardField (fRd (encode i)) (fRs1 (encode i))
        (fImm13 (encode i)) s)
  | storeUpdate (hst : IsStore i) (hup : ¬ IsLoadUpdate i)
      (h : exec i s = storeUpdate (accessBytes (encode i)) i.guardField (fRd (encode i)) (fRs1 (encode i))
        (fImm13 (encode i)) s)

/-- Every load and store runs one of the four operations, and exists where its bytes fit the register (R105). -/
theorem accessForm_of_isAccess {i : Instr} (h : IsAccess i) (s : State) :
    AccessForm i s ∧ i.minXlen = max 32 (8 * accessBytes (encode i)) := by
  cases i with
  | load1 | load2 | load4 | load8 =>
    rw [encode, accessBytes_fmt2]
    exact ⟨.load (by simp [IsStore, opcodeOf, encode, fOpcode_fmt2])
      (by simp [IsLoadUpdate, opcodeOf, encode, fOpcode_fmt2])
      (by rw [encode, accessBytes_fmt2, fRd_fmt2, fRs1_fmt2, fImm13_fmt2]; rfl), rfl⟩
  | load1Update | load2Update | load4Update | load8Update =>
    rw [encode, accessBytes_fmt2]
    exact ⟨.loadUpdate (by simp [IsStore, opcodeOf, encode, fOpcode_fmt2])
      (by simp [IsLoadUpdate, opcodeOf, encode, fOpcode_fmt2])
      (by rw [encode, accessBytes_fmt2, fRd_fmt2, fRs1_fmt2, fImm13_fmt2]; rfl), rfl⟩
  | store1 | store2 | store4 | store8 =>
    rw [encode, accessBytes_fmt2]
    exact ⟨.store (by simp [IsStore, opcodeOf, encode, fOpcode_fmt2])
      (by simp [IsLoadUpdate, opcodeOf, encode, fOpcode_fmt2])
      (by rw [encode, accessBytes_fmt2, fRd_fmt2, fRs1_fmt2, fImm13_fmt2]; rfl), rfl⟩
  | store1Update | store2Update | store4Update | store8Update =>
    rw [encode, accessBytes_fmt2]
    exact ⟨.storeUpdate (by simp [IsStore, opcodeOf, encode, fOpcode_fmt2])
      (by simp [IsLoadUpdate, opcodeOf, encode, fOpcode_fmt2])
      (by rw [encode, accessBytes_fmt2, fRd_fmt2, fRs1_fmt2, fImm13_fmt2]; rfl), rfl⟩
  | _ =>
    exact absurd h (by
      simp [IsAccess, opcodeOf, encode, fOpcode_fmt0, fOpcode_fmt1, fOpcode_fmt2, fOpcode_fmt3, fOpcode_fmt4a,
        fOpcode_fmt4b, fOpcode_fmt4c, fOpcode_fmt5a, fOpcode_fmt5b])

/-! ### The fault of an access -/

section AccessFault
variable {c : Config} {N : Nat} {ea : BitVec N} {n : Nat}

theorem accessFault?_of_misaligned (h : ea.toNat % n ≠ 0) :
    accessFault? c ea n = some (.misalignedData (ea.setWidth 64)) := if_pos h

theorem accessFault?_of_unmapped {j : Nat} (hal : ea.toNat % n = 0) (hj : j < n)
    (hbefore : ∀ k, k < j → c.mapped (ea.toNat + k) = true) (hat : c.mapped (ea.toNat + j) = false) :
    accessFault? c ea n = some (.accessFault (ea.toNat + j)) := by
  rw [accessFault?, if_neg (not_not.mpr hal), firstUnmapped_eq_some hj hbefore hat, Option.map_some]

theorem mapped_of_firstUnmapped {a b : Nat} (h : firstUnmapped c a n = some b) :
    c.mapped b = false ∧ a ≤ b ∧ b < a + n := by
  induction n generalizing a with
  | zero => cases h
  | succ n ih =>
    rw [firstUnmapped] at h
    split at h
    · obtain ⟨hb, hlo, hhi⟩ := ih h
      exact ⟨hb, by omega, by omega⟩
    · rename_i ha
      cases h
      exact ⟨by simpa using ha, le_rfl, by omega⟩

/-- The two faults of the checks, each with its cause. -/
theorem accessFault?_some {f : Fault} (h : accessFault? c ea n = some f) :
    (f = .misalignedData (ea.setWidth 64) ∧ ea.toNat % n ≠ 0)
      ∨ ∃ a, f = .accessFault a ∧ c.mapped a = false ∧ ea.toNat ≤ a ∧ a < ea.toNat + n := by
  rw [accessFault?] at h
  split at h
  · exact .inl ⟨(Option.some.inj h).symm, by assumption⟩
  · obtain ⟨a, ha, hf⟩ := Option.map_eq_some_iff.mp h
    exact .inr ⟨a, hf.symm, mapped_of_firstUnmapped ha⟩

end AccessFault

section Primitives
variable {s : State} {N m : Nat} {ea : BitVec N} {n : Nat} {v : BitVec m} {f : Fault}

theorem State.memRead_error_iff : s.memRead ea n = .error f ↔ accessFault? s.cfg ea n = some f := by
  rw [State.memRead]
  split
  next g hg => rw [hg, Except.error.injEq, Option.some.injEq]
  next hg => rw [hg]; simp

theorem State.memWrite_of_accessFault (h : accessFault? s.cfg ea n = some f) : s.memWrite ea n v = .error f := by
  rw [State.memWrite, h]

/-- A byte of the access in TEXT stops an admitted store (20_memory.md R65). -/
theorem State.memWrite_of_text (hadm : Admitted s.cfg ea.toNat n) {j : Nat} (hj : j < n)
    (htext : s.cfg.inText (ea.toNat + j) = true) :
    s.memWrite ea n v = .error (.unspecifiedBehaviour .storeToText) := by
  have htouch : touchesText s.cfg ea.toNat n = true := by
    by_contra hno
    have hout := (touchesText_false _ _ _).mp (by simpa using hno) j hj
    simp [htext] at hout
  rw [State.memWrite, (accessFault?_none s.cfg ea n).mpr hadm]
  exact if_pos htouch

/-- A store stops by the fault of its access, or because a byte of it lies in TEXT. -/
theorem State.memWrite_error (h : s.memWrite ea n v = .error f) :
    accessFault? s.cfg ea n = some f
      ∨ f = .unspecifiedBehaviour .storeToText ∧ ∃ j, j < n ∧ s.cfg.inText (ea.toNat + j) = true := by
  rw [State.memWrite] at h
  split at h
  next g hg =>
    cases h
    exact .inl hg
  next hg =>
    split at h
    next htouch =>
      cases h
      refine .inr ⟨rfl, ?_⟩
      by_contra hno
      have hout : touchesText s.cfg ea.toNat n = false :=
        (touchesText_false _ _ _).mpr fun j hj => by
          by_contra hin
          exact hno ⟨j, hj, by simpa using hin⟩
      rw [htouch] at hout
      cases hout
    next => cases h

end Primitives

/-! ### Executed accesses that are not admitted -/

section Executed
variable {s : State} {p : Pred} {rd rs1 : Reg} {imm13 : BitVec 13} {n : Nat} (hp : s.pred p = true)
  (hfit : 8 * n ≤ s.xlen)
include hp hfit

theorem loadUpdate_of_same (heq : rd = rs1) (h0 : rd ≠ 0) :
    loadUpdate n p rd rs1 imm13 s = .fault (.unspecifiedBehaviour .loadUpdateSameRegister) := by
  rw [loadUpdate, sized_of_le _ hfit, guarded_of_true _ hp, if_pos ⟨heq, h0⟩, unspecified]

section Fault
variable {f : Fault} (hf : accessFault? s.cfg (s.effectiveAddress rs1 imm13) n = some f)
include hf

theorem load_of_accessFault : load n p rd rs1 imm13 s = .fault f := by
  rw [load, sized_of_le _ hfit, guarded_of_true _ hp, State.memRead_error_iff.mpr hf]

theorem loadUpdate_of_accessFault (hne : ¬ (rd = rs1 ∧ rd ≠ 0)) : loadUpdate n p rd rs1 imm13 s = .fault f := by
  rw [loadUpdate, sized_of_le _ hfit, guarded_of_true _ hp, if_neg hne, State.memRead_error_iff.mpr hf]

end Fault

section Write
variable {f : Fault} (hw : s.memWrite (s.effectiveAddress rs1 imm13) n (s.reg s.xlen rd) = .error f)
include hw

theorem store_of_memWrite_error : store n p rd rs1 imm13 s = .fault f := by
  rw [store, sized_of_le _ hfit, guarded_of_true _ hp, hw]

theorem storeUpdate_of_memWrite_error : storeUpdate n p rd rs1 imm13 s = .fault f := by
  rw [storeUpdate, sized_of_le _ hfit, guarded_of_true _ hp, hw]

end Write
end Executed

section ByWord
variable {i : Instr} {s : State} (hwf : i.wf s.cfg.xlen = true) (hacc : IsAccess i)
  (hp : s.pred i.guardField = true)
include hwf hacc

/-- The bytes of a load or store that exists fit the register. -/
theorem accessBytes_le_xlen : 8 * accessBytes (encode i) ≤ s.xlen := by
  have hmin := (accessForm_of_isAccess hacc s).2
  have hle : i.minXlen ≤ s.xlen := decide_eq_true_iff.mp hwf
  omega

include hp

/-- A load or store ends with the fault of its access, unless it is a load.update of its own base. -/
theorem exec_of_accessFault {f : Fault}
    (hsame : ¬ (IsLoadUpdate i ∧ fRd (encode i) = fRs1 (encode i) ∧ fRd (encode i) ≠ 0))
    (hf : accessFault? s.cfg (wordAddress s (encode i)) (accessBytes (encode i)) = some f) : exec i s = .fault f := by
  have hfit := accessBytes_le_xlen hwf hacc
  cases (accessForm_of_isAccess hacc s).1 with
  | load _ _ h => exact h.trans (load_of_accessFault hp hfit hf)
  | loadUpdate _ hup h => exact h.trans (loadUpdate_of_accessFault hp hfit hf fun hno => hsame ⟨hup, hno⟩)
  | store _ _ h => exact h.trans (store_of_memWrite_error hp hfit (State.memWrite_of_accessFault hf))
  | storeUpdate _ _ h => exact h.trans (storeUpdate_of_memWrite_error hp hfit (State.memWrite_of_accessFault hf))

theorem exec_loadUpdate_same (hup : IsLoadUpdate i) (heq : fRd (encode i) = fRs1 (encode i))
    (h0 : fRd (encode i) ≠ 0) : exec i s = .fault (.unspecifiedBehaviour .loadUpdateSameRegister) := by
  cases (accessForm_of_isAccess hacc s).1 with
  | loadUpdate _ _ h => exact h.trans (loadUpdate_of_same hp (accessBytes_le_xlen hwf hacc) heq h0)
  | load _ hno | store _ hno | storeUpdate _ hno => exact absurd hup hno

/-- An admitted store of a byte of TEXT. -/
theorem exec_store_text (hst : IsStore i)
    (hadm : Admitted s.cfg (wordAddress s (encode i)).toNat (accessBytes (encode i))) {j : Nat}
    (hj : j < accessBytes (encode i)) (htext : s.cfg.inText ((wordAddress s (encode i)).toNat + j) = true) :
    exec i s = .fault (.unspecifiedBehaviour .storeToText) := by
  have hfit := accessBytes_le_xlen hwf hacc
  cases (accessForm_of_isAccess hacc s).1 with
  | store _ _ h => exact h.trans (store_of_memWrite_error hp hfit (State.memWrite_of_text hadm hj htext))
  | storeUpdate _ _ h => exact h.trans (storeUpdate_of_memWrite_error hp hfit (State.memWrite_of_text hadm hj htext))
  | load hno | loadUpdate hno => exact absurd hst hno

end ByWord

/-! ### The obligations -/

/-- Settles O33: each size is `load`, which for an admitted access writes the loaded value, whose bits are those of its
bytes. -/
theorem loadResults : Obligations.LoadResults := by
  intro s p rd rs1 imm13 hp a
  have hload (n : Nat) (hn : 0 < n) (hfit : 8 * n ≤ s.xlen) (hadm : Admitted s.cfg a n) :
      WritesBits s rd (loadedBit s a n) (load n p rd rs1 imm13 s) := by
    rw [load_of_admitted hp hfit hadm]
    exact ⟨_, writesOnly_writeReg s rd _, fun _ hi => s.getLsbD_loadedValue a hn hi⟩
  exact ⟨hload 1 (by decide) (s.bits_le_xlen (by decide)), hload 2 (by decide) (s.bits_le_xlen (by decide)),
    hload 4 (by decide) (s.bits_le_xlen (by decide)), fun h => hload 8 (by decide) (State.bits_le_xlen_of_x64 h)⟩

/-- Settles O37: the operation of the word stops by the first check that fails. -/
theorem refusedAccessesFault : Obligations.RefusedAccessesFault := by
  intro i s hwf hacc hp ea n same
  refine ⟨fun ⟨hup, heq, h0⟩ => ?same, fun hsame hal => ?misaligned, fun hsame hal j hj hbefore hat => ?unmapped,
    fun hst hadm j hj htext => ?text⟩
  case same => exact exec_loadUpdate_same hwf hacc hp hup heq h0
  case misaligned => exact exec_of_accessFault hwf hacc hp hsame (accessFault?_of_misaligned hal)
  case unmapped => exact exec_of_accessFault hwf hacc hp hsame (accessFault?_of_unmapped hal hj hbefore hat)
  case text => exact exec_store_text hwf hacc hp hst hadm hj htext

end Sys2Proof.Machine
end

section
/-! PROOFS. The frame of every meaning: outside a trap that is not predicated, exec is a guarded body under the size
check of its form, and the body answers a next state or a fault with its cause (60_exceptions.md R305 to R308). -/

namespace Sys2Proof.Machine
open Sys2Proof

/-! ### The faults of an executed instruction -/

/-- The faults that an executed instruction can raise, over the fields of its word, each with its cause (R305 to
R308). -/
inductive Faulted (i : Instr) (s : State) : Fault → Prop where
  | misaligned (h : IsAccess i) (hal : (wordAddress s (encode i)).toNat % accessBytes (encode i) ≠ 0) :
      Faulted i s (.misalignedData ((wordAddress s (encode i)).setWidth 64))
  | unmapped (a : Nat) (h : IsAccess i) (hmap : s.cfg.mapped a = false) (hlo : (wordAddress s (encode i)).toNat ≤ a)
      (hhi : a < (wordAddress s (encode i)).toNat + accessBytes (encode i)) : Faulted i s (.accessFault a)
  | samePredicate (h : IsCompare i) (heq : fPa (encode i) = fPb (encode i)) (h0 : fPa (encode i) ≠ 0) :
      Faulted i s (.unspecifiedBehaviour .cmpSamePredicate)
  | sameRegister (h : IsLoadUpdate i) (heq : fRd (encode i) = fRs1 (encode i)) (h0 : fRd (encode i) ≠ 0) :
      Faulted i s (.unspecifiedBehaviour .loadUpdateSameRegister)
  | linkThroughR31 (h : opcodeOf i = 0x05) (hrd : fRd (encode i) = 31) :
      Faulted i s (.unspecifiedBehaviour .linkThroughR31)
  | shiftByXlen (h : 0x25 ≤ opcodeOf i ∧ opcodeOf i ≤ 0x27) (hk : (fImm13 (encode i)).toNat = s.xlen) :
      Faulted i s (.unspecifiedBehaviour .shiftByXlen)
  | bitfieldRange (h : opcodeOf i = 0x29 ∨ opcodeOf i = 0x2A)
      (hr : (fImm6 (encode i)).toNat = 0 ∨ s.xlen < (fImm7 (encode i)).toNat + (fImm6 (encode i)).toNat) :
      Faulted i s (.unspecifiedBehaviour .bitfieldRange)
  | packedShift (h : opcodeOf i = 0x3C)
      (hk : 8 * 2 ^ (fSwc (encode i)).toNat ≤ (s.reg s.xlen (fRs2 (encode i))).toNat) :
      Faulted i s (.unspecifiedBehaviour .packedShiftRange)
  | packedShiftImm (h : opcodeOf i = 0x3D) (hk : 8 * 2 ^ (fSwc (encode i)).toNat ≤ (fImm5 (encode i)).toNat) :
      Faulted i s (.unspecifiedBehaviour .packedShiftRange)
  | storeToText (h : IsStore i) (j : Nat) (hj : j < accessBytes (encode i))
      (ht : s.cfg.inText ((wordAddress s (encode i)).toNat + j) = true) :
      Faulted i s (.unspecifiedBehaviour .storeToText)

/-- A body answers a next state, or a fault with its cause; it refuses nothing. -/
def Answers (i : Instr) (s : State) : Result → Prop
  | .next _ => True
  | .fault f => Faulted i s f
  | .refused _ => False

/-- exec of the instruction is a guarded body under the size check of its form. -/
def Framed (i : Instr) (s : State) : Prop :=
  ∃ body, Answers i s body ∧ exec i s = sized i.minXlen s (guarded i.guardField s body)

/-! ### The size check (30_encoding.md R105) -/

/-- Sizes up to 32 bits exist at both register sizes, so the check of a form is that of its least XLEN. -/
theorem sized_max (w : Nat) (s : State) (body : Result) : sized (max 32 w) s body = sized w s body := by
  have hge := s.xlen_ge
  unfold sized
  by_cases hw : w ≤ s.xlen
  · rw [if_pos hw, if_pos (by omega)]
  · rw [if_neg hw, if_neg (by omega)]

section Frames
variable {i : Instr} {s : State} {body : Result}

theorem framed_of_sized {w : Nat} (hmin : i.minXlen = max 32 w)
    (h : exec i s = sized w s (guarded i.guardField s body)) (ha : Answers i s body) : Framed i s :=
  ⟨body, ha, by rw [hmin, sized_max, h]⟩

theorem framed_of_guarded (hmin : i.minXlen = 32) (h : exec i s = guarded i.guardField s body)
    (ha : Answers i s body) : Framed i s :=
  framed_of_sized (w := 32) hmin (h.trans (sized_of_le_32 _ le_rfl).symm) ha

/-! ### The bodies that can stop -/

theorem answers_ite {c : Prop} [Decidable c] {u : UnspecifiedCase} (hu : c → Faulted i s (.unspecifiedBehaviour u))
    (h : Answers i s body) : Answers i s (if c then unspecified u else body) := by
  split
  next hc => exact hu hc
  next => exact h

theorem framed_writePreds {b : Bool} (hmin : i.minXlen = 32) (hcmp : IsCompare i)
    (h : exec i s = writePreds i.guardField (fPa (encode i)) (fPb (encode i)) s b) : Framed i s :=
  framed_of_guarded hmin h (answers_ite (fun ⟨heq, h0⟩ => .samePredicate hcmp heq h0) trivial)

theorem framed_scalarShift {rd rs1 : Reg} {imm13 : BitVec 13} {f : BitVec s.xlen → Nat → BitVec s.xlen}
    (hmin : i.minXlen = 32) (hop : 0x25 ≤ opcodeOf i ∧ opcodeOf i ≤ 0x27) (himm : fImm13 (encode i) = imm13)
    (h : exec i s = scalarShift i.guardField rd rs1 imm13 s f) : Framed i s :=
  framed_of_guarded hmin h (answers_ite (fun hk => .shiftByXlen hop (himm ▸ hk)) trivial)

theorem framed_bitfield {rd : Reg} {imm7 : BitVec 7} {imm6 : BitVec 6} {v : BitVec s.xlen} (hmin : i.minXlen = 32)
    (hop : opcodeOf i = 0x29 ∨ opcodeOf i = 0x2A) (himm7 : fImm7 (encode i) = imm7) (himm6 : fImm6 (encode i) = imm6)
    (h : exec i s = guarded i.guardField s
      (if fieldOutOfRange s.xlen imm7 imm6 then unspecified .bitfieldRange else writeReg s rd v)) : Framed i s := by
  refine framed_of_guarded hmin h (answers_ite (fun hout => .bitfieldRange hop ?_) trivial)
  rw [himm7, himm6]
  exact fieldOutOfRange_iff.mp hout

theorem framed_packedShift {w : Nat} {d : LaneShift} {rd rs1 rs2 : Reg} (hmin : i.minXlen = max 32 w)
    (hop : opcodeOf i = 0x3C) (hw : w = 8 * 2 ^ (fSwc (encode i)).toNat) (hrs2 : fRs2 (encode i) = rs2)
    (h : exec i s = packedShift w d i.guardField rd rs1 rs2 s) : Framed i s :=
  framed_of_sized hmin h (answers_ite (fun hk => .packedShift hop (by rwa [← hw, hrs2])) trivial)

theorem framed_packedShiftImm {w : Nat} {d : LaneShift} {rd rs1 : Reg} {imm5 : BitVec 5} (hmin : i.minXlen = max 32 w)
    (hop : opcodeOf i = 0x3D) (hw : w = 8 * 2 ^ (fSwc (encode i)).toNat) (himm : fImm5 (encode i) = imm5)
    (h : exec i s = packedShiftImm w d i.guardField rd rs1 imm5 s) : Framed i s :=
  framed_of_sized hmin h (answers_ite (fun hk => .packedShiftImm hop (by rwa [← hw, himm])) trivial)

/-! ### The loads and stores -/

theorem faulted_of_accessFault {f : Fault} (hacc : IsAccess i)
    (hf : accessFault? s.cfg (wordAddress s (encode i)) (accessBytes (encode i)) = some f) : Faulted i s f := by
  rcases accessFault?_some hf with ⟨rfl, hal⟩ | ⟨a, rfl, hmap, hlo, hhi⟩
  · exact .misaligned hacc hal
  · exact .unmapped a hacc hmap hlo hhi

theorem faulted_of_memWrite {f : Fault} {v : BitVec s.xlen} (hacc : IsAccess i) (hst : IsStore i)
    (hw : s.memWrite (wordAddress s (encode i)) (accessBytes (encode i)) v = .error f) : Faulted i s f := by
  rcases State.memWrite_error hw with hf | ⟨rfl, j, hj, htext⟩
  · exact faulted_of_accessFault hacc hf
  · exact .storeToText hst j hj htext

theorem framed_of_isAccess (hacc : IsAccess i) (s : State) : Framed i s := by
  obtain ⟨hform, hmin⟩ := accessForm_of_isAccess hacc s
  cases hform with
  | load _ _ h =>
    refine framed_of_sized hmin h ?_
    split
    next f hr => exact faulted_of_accessFault hacc (State.memRead_error_iff.mp hr)
    next => trivial
  | loadUpdate _ hup h =>
    refine framed_of_sized hmin h (answers_ite (fun ⟨heq, h0⟩ => .sameRegister hup heq h0) ?_)
    split
    next f hr => exact faulted_of_accessFault hacc (State.memRead_error_iff.mp hr)
    next => trivial
  | store hst _ h | storeUpdate hst _ h =>
    refine framed_of_sized hmin h ?_
    split
    next f hw => exact faulted_of_memWrite hacc hst hw
    next => trivial

end Frames

/-! ### Every instruction -/

/-- A predicated trap, and every other instruction, is a guarded body under its size check. -/
theorem exec_framed (i : Instr) (s : State) (hT : opcodeOf i = 0x03 → s.cfg.trapPredicated = true) : Framed i s := by
  cases i with
  | trap p => exact framed_of_guarded rfl (if_pos (hT (fOpcode_fmt0 ..))) (body := .next s.halt) trivial
  | jmp | jmpLink | jmpReg | changepr | changeprLd => exact framed_of_guarded rfl rfl trivial
  | jmpRegLink p rd =>
    exact framed_of_guarded rfl rfl
      (answers_ite (fun hrd => .linkThroughR31 (fOpcode_fmt1 ..) ((fRd_fmt1 ..).trans hrd)) trivial)
  | cmpEq | cmpNe | cmpLt | cmpLe | cmpGt | cmpGe | cmpLtu | cmpLeu | cmpGtu | cmpGeu =>
    exact framed_writePreds rfl (.inl (fOpcode_fmt5a ..)) (by rw [encode, fPa_fmt5a, fPb_fmt5a]; rfl)
  | cmpiEq | cmpiNe | cmpiLt | cmpiLe | cmpiGt | cmpiGe | cmpiLtu | cmpiLeu | cmpiGtu | cmpiGeu =>
    exact framed_writePreds rfl (.inr (.inl (fOpcode_fmt5b ..))) (by rw [encode, fPa_fmt5b, fPb_fmt5b]; rfl)
  | testbit =>
    exact framed_writePreds rfl (.inr (.inr (fOpcode_fmt5b ..))) (by rw [encode, fPa_fmt5b, fPb_fmt5b]; rfl)
  | load1 | load2 | load4 | load8 | load1Update | load2Update | load4Update | load8Update
  | store1 | store2 | store4 | store8 | store1Update | store2Update | store4Update | store8Update =>
    exact framed_of_isAccess (by simp [IsAccess, opcodeOf, encode, fOpcode_fmt2]) s
  | loadiHi | loadiLo | addi | subi | andi | ori | xori | shrp | andReg | andcm | orReg | xorReg | notReg
  | muxRev | muxMix | muxShuf | muxAlt | muxBrcst | perm | pmulOdd | pmulEven
  | pmulshr0 | pmulshr8 | pmulshr15 | pmulshr16 | pmulshr0A | pmulshr8A | pmulshr15A | pmulshr16A =>
    exact framed_of_guarded rfl rfl trivial
  | slli | srli | srai =>
    exact framed_scalarShift rfl (by simp [opcodeOf, encode, fOpcode_fmt2]) (fImm13_fmt2 ..) rfl
  | extract | deposit =>
    exact framed_bitfield rfl (by simp [opcodeOf, encode, fOpcode_fmt3]) (fImm7_fmt3 ..) (fImm6_fmt3 ..) rfl
  | mix1L | mix2L | mix4L | mix1R | mix2R | mix4R
  | padd1 | padd2 | padd4 | padd8 | padd1U | padd2U | padd4U | padd8U | padd1S | padd2S | padd4S | padd8S
  | paddincr1 | paddincr2 | paddincr4 | paddincr8
  | psub1 | psub2 | psub4 | psub8 | psub1U | psub2U | psub4U | psub8U | psub1S | psub2S | psub4S | psub8S
  | psubdecr1 | psubdecr2 | psubdecr4 | psubdecr8
  | pavg1 | pavg2 | pavg1Raz | pavg2Raz | psubavg1 | psubavg2
  | pcmp1Eq | pcmp2Eq | pcmp4Eq | pcmp8Eq | pcmp1Gt | pcmp2Gt | pcmp4Gt | pcmp8Gt
  | pmax1 | pmax2 | pmin1 | pmin2
  | pshiftadd1L | pshiftadd2L | pshiftadd3L | pshiftadd1R | pshiftadd2R | pshiftadd3R =>
    exact framed_of_sized rfl rfl trivial
  | pshift2L | pshift4L | pshift8L | pshift2R | pshift4R | pshift8R | pshift2Ra | pshift4Ra | pshift8Ra =>
    exact framed_packedShift rfl (fOpcode_fmt4a ..) (by rw [encode, fSwc_fmt4a]; rfl) (fRs2_fmt4a ..) rfl
  | pshifti2L | pshifti4L | pshifti8L | pshifti2R | pshifti4R | pshifti8R
  | pshifti2Ra | pshifti4Ra | pshifti8Ra =>
    exact framed_packedShiftImm rfl (fOpcode_fmt4b ..) (by rw [encode, fSwc_fmt4b]; rfl) (fImm5_fmt4b ..) rfl

/-- A trap that is not predicated halts whatever its guard reads. -/
theorem exec_trap_of_not_predicated {i : Instr} {s : State} (hop : opcodeOf i = 0x03)
    (hT : s.cfg.trapPredicated = false) : exec i s = .next s.halt ∧ i.wf s.cfg.xlen = true := by
  cases i with
  | trap p => exact ⟨exec_trap_of_executed (.inr hT), by cases s.cfg.xlen <;> rfl⟩
  | _ =>
    exact absurd hop (by
      simp [opcodeOf, encode, fOpcode_fmt0, fOpcode_fmt1, fOpcode_fmt2, fOpcode_fmt3, fOpcode_fmt4a,
        fOpcode_fmt4b, fOpcode_fmt4c, fOpcode_fmt5a, fOpcode_fmt5b])

/-- The frame of an instruction, or the trap that halts whatever its guard reads. -/
theorem exec_framed_or_halts (i : Instr) (s : State) :
    Framed i s ∨ exec i s = .next s.halt ∧ i.wf s.cfg.xlen = true := by
  by_cases hop : opcodeOf i = 0x03
  · cases hT : s.cfg.trapPredicated with
    | true => exact .inl (exec_framed i s fun _ => hT)
    | false => exact .inr (exec_trap_of_not_predicated hop hT)
  · exact .inl (exec_framed i s fun h => absurd h hop)

/-! ### What the frame says of each outcome -/

section Outcomes
variable {i : Instr} {s : State}

theorem exec_of_nullified (hwf : i.wf s.cfg.xlen = true) (hp : s.pred i.guardField = false)
    (hT : opcodeOf i = 0x03 → s.cfg.trapPredicated = true) : exec i s = .next s.advance := by
  obtain ⟨body, -, h⟩ := exec_framed i s hT
  rw [h, sized_of_le _ (Instr.wf_iff.mp hwf), guarded_of_false _ hp]

/-- A fault comes from the body, so the guard reads 1 and the fault has its cause. -/
theorem exec_fault {f : Fault} (h : exec i s = .fault f) : s.pred i.guardField = true ∧ Faulted i s f := by
  rcases exec_framed_or_halts i s with ⟨body, ha, hexec⟩ | ⟨hexec, -⟩
  · rw [hexec, sized] at h
    split at h
    · unfold guarded at h
      split at h
      next hp =>
        rw [h] at ha
        exact ⟨hp, ha⟩
      next => cases h
    · cases h
  · rw [hexec] at h
    cases h

/-- A refusal comes from the size check. -/
theorem exec_ne_refused (hwf : i.wf s.cfg.xlen = true) (r : Refusal) : exec i s ≠ .refused r := by
  intro h
  rcases exec_framed_or_halts i s with ⟨body, ha, hexec⟩ | ⟨hexec, -⟩
  · rw [hexec, sized_of_le _ (Instr.wf_iff.mp hwf)] at h
    unfold guarded at h
    split at h
    · rw [h] at ha
      exact ha
    · cases h
  · rw [hexec] at h
    cases h

theorem exec_of_not_wf (hwf : i.wf s.cfg.xlen = false) : exec i s = .refused .absentForm := by
  rcases exec_framed_or_halts i s with ⟨body, -, hexec⟩ | ⟨-, hwf'⟩
  · have habsent : ¬ i.minXlen ≤ s.xlen := fun hle => by simp [Instr.wf_iff.mpr hle] at hwf
    rw [hexec, sized, if_neg habsent]
  · rw [hwf'] at hwf
    cases hwf

end Outcomes

/-! ### The obligations -/

/-- Settles O12: `exec_of_nullified`. -/
theorem nullifiedInstructionOnlyAdvances : Obligations.NullifiedInstructionOnlyAdvances := by
  intro i s hwf hp hT
  rw [exec_of_nullified hwf hp hT]
  exact onlyAdvances_advance s

/-- Settles O20: a fault is one of `Faulted`, whose causes are those of the statement. -/
theorem faultsComeOnlyFromTheirCauses : Obligations.FaultsComeOnlyFromTheirCauses := by
  intro i s f h
  obtain ⟨hp, hf⟩ := exec_fault h
  refine ⟨hp, ?_⟩
  cases hf with
  | misaligned hacc hal => exact ⟨hacc, rfl, hal⟩
  | unmapped a hacc hmap hlo hhi => exact ⟨hacc, hmap, hlo, hhi⟩
  | samePredicate hcmp heq h0 => exact ⟨hcmp, heq, h0⟩
  | sameRegister hup heq h0 => exact ⟨hup, heq, h0⟩
  | linkThroughR31 hop hrd => exact ⟨hop, hrd⟩
  | shiftByXlen hop hk => exact ⟨hop, hk⟩
  | bitfieldRange hop hr => exact ⟨hop, hr⟩
  | packedShift hop hk => exact .inl ⟨hop, hk⟩
  | packedShiftImm hop hk => exact .inr ⟨hop, hk⟩
  | storeToText hst j hj ht => exact ⟨hst, j, hj, ht⟩

/-- Settles O21: a step runs only what its word decodes to, which exists at the register size under every ENCODING; and
exec refuses by the size check alone. -/
theorem nothingIsRefused : Obligations.NothingIsRefused := by
  refine ⟨fun s r h => ?step, fun i s r hwf => exec_ne_refused hwf r, fun i s hwf => exec_of_not_wf hwf⟩
  case step =>
    unfold step at h
    split at h
    next => cases h
    next => cases h
    next i hrun =>
      obtain ⟨-, w, -, hd⟩ := frontEnd_run hrun
      exact exec_ne_refused (decodeUnder_wf hd) r h

end Sys2Proof.Machine
end

section
/-! PROOFS. The packed sums, differences, averages, maxima and shift-and-adds, executed (45_alu_packed.md R211 to R221,
R229 to R232): each lane operation as a number at every subword width, and each arm as that operation on all lanes. -/

namespace Sys2Proof.Machine
open Sys2Proof

/-! ### Modular lanes (R211, R214, R215, R218) -/

/-- A lane given as an integer is that integer modulo the power of two of its width. -/
theorem natCast_toNat_ofInt (w : Nat) (r : Int) : ((BitVec.ofInt w r).toNat : Int) = r % 2 ^ w := by
  rw [BitVec.toNat_ofInt, Int.toNat_of_nonneg (Int.emod_nonneg _ (by positivity)), Nat.cast_pow, Nat.cast_ofNat]

theorem twoPow_eq_ofInt (w k : Nat) : BitVec.twoPow w k = BitVec.ofInt w (2 ^ k) := by
  have hcast : (2 ^ k : Int) = ((2 ^ k : Nat) : Int) := by rw [Nat.cast_pow, Nat.cast_ofNat]
  apply BitVec.eq_of_toNat_eq
  rw [hcast, BitVec.ofInt_natCast, BitVec.toNat_twoPow, BitVec.toNat_ofNat]

section Modular
variable {w : Nat} (a b : BitVec w)

theorem toNat_addIncr : (addIncr a b).toNat = (a.toNat + b.toNat + 1) % 2 ^ w := by
  simp only [addIncr, BitVec.toNat_add, BitVec.toNat_ofNat, Nat.mod_add_mod, Nat.add_mod_mod]

theorem sub_eq_ofInt : a - b = BitVec.ofInt w ((a.toNat : Int) - b.toNat) := by
  rw [Int.sub_eq_add_neg, BitVec.ofInt_add, BitVec.ofInt_neg, BitVec.ofInt_natCast, BitVec.ofInt_natCast,
    BitVec.ofNat_toNat, BitVec.ofNat_toNat, BitVec.setWidth_eq, BitVec.setWidth_eq, BitVec.sub_eq_add_neg]

theorem natCast_toNat_sub : ((a - b).toNat : Int) = ((a.toNat : Int) - b.toNat) % 2 ^ w := by
  rw [sub_eq_ofInt, natCast_toNat_ofInt]

theorem subDecr_eq_ofInt : subDecr a b = BitVec.ofInt w ((a.toNat : Int) - b.toNat - 1) := by
  rw [subDecr, sub_eq_ofInt a b, Int.sub_eq_add_neg (b := 1), BitVec.ofInt_add, BitVec.ofInt_neg,
    BitVec.sub_eq_add_neg (y := 1#w)]
  rfl

theorem natCast_toNat_subDecr : ((subDecr a b).toNat : Int) = ((a.toNat : Int) - b.toNat - 1) % 2 ^ w := by
  rw [subDecr_eq_ofInt, natCast_toNat_ofInt]

end Modular

/-! ### Saturating lanes (00_scope.md R10, R212, R213, R216, R217) -/

section Saturating
variable {w : Nat}

theorem natCast_toNat_satU (r : Int) : ((satU w r).toNat : Int) = max 0 (min r (2 ^ w - 1)) := by
  have hpos : (0 : Int) < 2 ^ w := by positivity
  rw [satU, Nat.cast_pow, Nat.cast_ofNat]
  split
  next hneg => rw [max_eq_left (by omega), BitVec.toNat_zero, Nat.cast_zero]
  next =>
    split
    next hbig =>
      rw [BitVec.toNat_allOnes, Nat.cast_pred (Nat.two_pow_pos w), Nat.cast_pow, Nat.cast_ofNat,
        min_eq_right (by omega), max_eq_right (by omega)]
    next hin => rw [natCast_toNat_ofInt, Int.emod_eq_of_lt (by omega) (by omega)]; omega

theorem satS_eq_ofInt (r : Int) : satS w r = BitVec.ofInt w (clampS w r) := by
  have hpos : (0 : Int) < 2 ^ (w - 1) := by positivity
  rw [satS, clampS, Nat.cast_pow, Nat.cast_ofNat]
  split
  next hlow => rw [max_eq_left (by omega)]
  next =>
    split
    next hhigh => rw [min_eq_right (by omega), max_eq_right (by omega)]
    next hin => rw [min_eq_left (by omega), max_eq_right (by omega)]

/-- The clamped range is that of signed w-bit numbers. -/
theorem toInt_satS (hw : 0 < w) (r : Int) : (satS w r).toInt = clampS w r := by
  have hpos : (0 : Int) < 2 ^ (w - 1) := by positivity
  rw [satS_eq_ofInt]
  exact BitVec.toInt_ofInt_eq_self hw (by unfold clampS; omega) (by unfold clampS; omega)

variable (a b : BitVec w)

theorem toNat_addSatU : (addSatU a b).toNat = min (a.toNat + b.toNat) (2 ^ w - 1) := by
  have hval := natCast_toNat_satU (w := w) ((a.toNat : Int) + b.toNat)
  have hcast : ((2 ^ w : Nat) : Int) = 2 ^ w := by rw [Nat.cast_pow, Nat.cast_ofNat]
  have hpos := Nat.two_pow_pos w
  rw [← addSatU, ← hcast] at hval
  omega

theorem toNat_subSatU : (subSatU a b).toNat = a.toNat - b.toNat := by
  have hval := natCast_toNat_satU (w := w) ((a.toNat : Int) - b.toNat)
  have ha : (a.toNat : Int) < 2 ^ w := by exact_mod_cast a.isLt
  rw [← subSatU] at hval
  omega

end Saturating

/-! ### Averages (R219 to R221, D22) -/

/-- Half a number with its low bit or-ed in: an exact half, n = 1 modulo 4, goes up to the odd neighbour; at n = 3
modulo 4 the half rounded down is odd already. -/
theorem div_two_or_mod_two (n : Nat) : n / 2 ||| n % 2 = if n % 4 = 1 then n / 2 + 1 else n / 2 := by
  have heven (m : Nat) : 2 * m ||| 1 = 2 * m + 1 := (Nat.two_pow_add_eq_or_of_lt (i := 1) (by decide) m).symm
  obtain hr | hr := Nat.mod_two_eq_zero_or_one n
  · rw [hr, Nat.or_zero, if_neg (by omega)]
  · split
    next h1 =>
      have hq : n / 2 = 2 * (n / 4) := by omega
      rw [hr, hq, heven]
    next h3 =>
      have hq : n / 2 = 2 * (n / 4) + 1 := by omega
      rw [hr, hq, ← heven, Nat.or_assoc, Nat.or_self]

section Averages
variable {w : Nat}

theorem toNat_halveToOdd (t : BitVec (w + 1)) :
    (halveToOdd t).toNat = (if t.toNat % 4 = 1 then t.toNat / 2 + 1 else t.toNat / 2) % 2 ^ w := by
  have hone : (1#(w + 1)).toNat = 1 := by rw [BitVec.toNat_ofNat, Nat.mod_eq_of_lt (Nat.one_lt_two_pow (by omega))]
  rw [halveToOdd, BitVec.toNat_setWidth, BitVec.toNat_or, BitVec.toNat_and, hone, BitVec.toNat_ushiftRight,
    Nat.and_one_is_mod, Nat.shiftRight_one, div_two_or_mod_two]

theorem halveToOdd_eq_ofInt (t : BitVec (w + 1)) : halveToOdd t = BitVec.ofInt w (halfToOdd t.toNat) := by
  apply BitVec.eq_of_toNat_eq
  have hhalf : halfToOdd t.toNat = ((if t.toNat % 4 = 1 then t.toNat / 2 + 1 else t.toNat / 2 : Nat) : Int) := by
    rw [halfToOdd]
    split <;> split <;> omega
  rw [toNat_halveToOdd, hhalf, BitVec.ofInt_natCast, BitVec.toNat_ofNat]

theorem halfToOdd_add_four_mul (d m : Int) : halfToOdd (d + 4 * m) = halfToOdd d + 2 * m := by
  unfold halfToOdd
  omega

theorem halfToOdd_bounds (d : Int) : d ≤ 2 * halfToOdd d + 1 ∧ 2 * halfToOdd d ≤ d + 1 := by
  unfold halfToOdd
  omega

/-- Halving w + 1 bits halves the integer they stand for: a multiple of 2^(w+1) halves to one of 2^w. -/
theorem halveToOdd_ofInt (hw : 0 < w) (d : Int) :
    halveToOdd (BitVec.ofInt (w + 1) d) = BitVec.ofInt w (halfToOdd d) := by
  have hhalf : (2 : Int) ^ w = 2 * 2 ^ (w - 1) := by rw [← pow_succ', Nat.sub_add_cancel hw]
  have hrem : d % 2 ^ (w + 1) = d + 4 * (2 ^ (w - 1) * -(d / 2 ^ (w + 1))) := by
    rw [Int.emod_def, pow_succ' _ w, hhalf]
    ring
  have hval : halfToOdd (d % 2 ^ (w + 1)) = halfToOdd d + 2 ^ w * -(d / 2 ^ (w + 1)) := by
    rw [hrem, halfToOdd_add_four_mul, hhalf, mul_assoc]
  apply BitVec.eq_of_toNat_eq
  rw [halveToOdd_eq_ofInt, natCast_toNat_ofInt, hval, BitVec.toNat_ofInt, BitVec.toNat_ofInt, Nat.cast_pow,
    Nat.cast_ofNat, Int.add_mul_emod_self_left]

variable (a b : BitVec w)

/-- An unsigned sum fits w + 1 bits, and its half w bits. -/
theorem natCast_toNat_average (hw : 0 < w) : ((average a b).toNat : Int) = halfToOdd (a.toNat + b.toNat) := by
  have hsum : a.setWidth (w + 1) + b.setWidth (w + 1) = BitVec.ofInt (w + 1) (a.toNat + b.toNat) := by
    rw [BitVec.ofInt_add, BitVec.ofInt_natCast, BitVec.ofInt_natCast, BitVec.ofNat_toNat, BitVec.ofNat_toNat]
  have ha : (a.toNat : Int) < 2 ^ w := by exact_mod_cast a.isLt
  have hb : (b.toNat : Int) < 2 ^ w := by exact_mod_cast b.isLt
  have hbounds := halfToOdd_bounds (a.toNat + b.toNat)
  rw [average, hsum, halveToOdd_ofInt hw, natCast_toNat_ofInt, Int.emod_eq_of_lt (by omega) (by omega)]

theorem toNat_averageRaz : (averageRaz a b).toNat = (a.toNat + b.toNat + 1) / 2 := by
  have ha := a.isLt
  have hb := b.isLt
  have hfull : 2 ^ (w + 1) = 2 * 2 ^ w := pow_succ' 2 w
  have hone : (1#(w + 1)).toNat = 1 := by rw [BitVec.toNat_ofNat, Nat.mod_eq_of_lt (Nat.one_lt_two_pow (by omega))]
  rw [averageRaz, BitVec.toNat_setWidth, BitVec.toNat_ushiftRight, BitVec.toNat_add, BitVec.toNat_add, hone,
    BitVec.toNat_setWidth_of_le (by omega), BitVec.toNat_setWidth_of_le (by omega), Nat.mod_add_mod,
    Nat.mod_eq_of_lt (by omega), Nat.shiftRight_one, Nat.mod_eq_of_lt (by omega)]

/-- Adding the top bit carries out of the width, so it only complements that bit. -/
theorem xor_twoPow_top : a ^^^ BitVec.twoPow w (w - 1) = a + BitVec.twoPow w (w - 1) := by
  apply BitVec.eq_of_getLsbD_eq
  intro i hi
  have hlow : (BitVec.twoPow w (w - 1)).toNat % 2 ^ i = 0 := by
    rw [BitVec.toNat_twoPow, Nat.mod_eq_of_lt (Nat.pow_lt_pow_right (by decide) (by omega))]
    exact Nat.mod_eq_zero_of_dvd (Nat.pow_dvd_pow 2 (by omega))
  have hcarry : BitVec.carry i a (BitVec.twoPow w (w - 1)) false = false := by
    rw [BitVec.carry, hlow, Bool.toNat_false, decide_eq_false_iff_not]
    exact Nat.not_le.mpr (Nat.mod_lt _ (Nat.two_pow_pos i))
  rw [BitVec.getLsbD_xor, BitVec.getLsbD_add hi, hcarry, Bool.xor_false]

/-- What PSUBAVG_TOP adds to the halved difference (D22). -/
def topOffset (w : Nat) (top : SubAvgTop) : Int :=
  match top with
  | .borrow => 0
  | .carry => 2 ^ (w - 1)

theorem subAverage_eq_ofInt (top : SubAvgTop) (hw : 0 < w) :
    subAverage top a b = BitVec.ofInt w (halfToOdd ((a.toNat : Int) - b.toNat) + topOffset w top) := by
  have hdiff : a.setWidth (w + 1) - b.setWidth (w + 1) = BitVec.ofInt (w + 1) ((a.toNat : Int) - b.toNat) := by
    rw [sub_eq_ofInt, BitVec.toNat_setWidth_of_le (by omega), BitVec.toNat_setWidth_of_le (by omega)]
  cases top with
  | borrow => rw [subAverage, hdiff, halveToOdd_ofInt hw, topOffset, add_zero]
  | carry =>
    rw [subAverage, hdiff, halveToOdd_ofInt hw, topOffset, BitVec.ofInt_add]
    exact (xor_twoPow_top _).trans (congrArg _ (twoPow_eq_ofInt w _))

end Averages

/-! ### Maxima, minima, and shift-and-adds (R229 to R232) -/

section Signed
variable {w : Nat} (a b : BitVec w)

theorem toInt_maxS : (maxS a b).toInt = max a.toInt b.toInt := by
  rw [maxS, apply_ite BitVec.toInt, max_comm, max_def]

theorem toInt_minS : (minS a b).toInt = min a.toInt b.toInt := by
  rw [minS, apply_ite BitVec.toInt, min_def]

theorem toInt_shiftLeft_eq_bmod (sa : Nat) : (a <<< sa).toInt = (a.toInt * 2 ^ sa).bmod (2 ^ w) := by
  rw [BitVec.shiftLeft_eq_mul_twoPow, twoPow_eq_ofInt, ← BitVec.toInt_ofInt, BitVec.ofInt_mul, BitVec.ofInt_toInt]

end Signed

section ShiftAdd
variable (sa : Nat) (a b : BitVec 16)

/-- What PSHIFTADD_SHIFT makes of the lane of Rs1 shifted left by `sa` (D24). -/
def shiftedLeft (m : ShiftAddShift) (sa : Nat) (x : Int) : Int :=
  match m with
  | .modular => Int.bmod (x * 2 ^ sa) (2 ^ 16)
  | .saturating => clampS 16 (x * 2 ^ sa)

theorem toInt_shiftLeftAdd (m : ShiftAddShift) :
    (shiftLeftAdd m sa a b).toInt = clampS 16 (shiftedLeft m sa a.toInt + b.toInt) := by
  refine (toInt_satS (by decide) _).trans (congrArg (fun x => clampS 16 (x + b.toInt)) ?_)
  cases m with
  | modular => exact toInt_shiftLeft_eq_bmod a sa
  | saturating => exact (toInt_satS (by decide) _).trans (by rw [Nat.cast_pow, Nat.cast_ofNat, shiftedLeft])

theorem toInt_shiftRightAdd : (shiftRightAdd sa a b).toInt = clampS 16 (a.toInt / 2 ^ sa + b.toInt) := by
  rw [shiftRightAdd, toInt_satS (by decide), BitVec.toInt_sshiftRight, Int.shiftRight_eq_div_pow, Nat.cast_pow,
    Nat.cast_ofNat]

end ShiftAdd

/-! ### The sizes that exist at both register sizes (30_encoding.md R105) -/

section NarrowSizes
variable {s : State} {p : Pred} (hp : s.pred p = true) (rd rs1 rs2 : Reg)
include hp

theorem writesPairs_packed8 {f : BitVec 8 → BitVec 8 → BitVec 8} {R : BitVec 8 → BitVec 8 → BitVec 8 → Prop}
    (hR : ∀ a b, R a b (f a b)) : WritesPairs s rd rs1 rs2 8 R (packed 8 f p rd rs1 rs2 s) :=
  writesPairs_packed hp rd rs1 rs2 (s.bits_le_xlen (n := 1) (by decide)) hR

theorem writesPairs_packed16 {f : BitVec 16 → BitVec 16 → BitVec 16} {R : BitVec 16 → BitVec 16 → BitVec 16 → Prop}
    (hR : ∀ a b, R a b (f a b)) : WritesPairs s rd rs1 rs2 16 R (packed 16 f p rd rs1 rs2 s) :=
  writesPairs_packed hp rd rs1 rs2 (s.bits_le_xlen (n := 2) (by decide)) hR

end NarrowSizes

/-! ### The obligations -/

/-- Settles O45: each arm is `packed` of a modular operation, at each size. -/
theorem packedModularResults : Obligations.PackedModularResults := by
  intro s p rd rs1 rs2 hp
  have h8 : 8 ≤ s.xlen := s.bits_le_xlen (n := 1) (by decide)
  have h16 : 16 ≤ s.xlen := s.bits_le_xlen (n := 2) (by decide)
  have h64 (h : s.cfg.xlen = .x64) : 64 ≤ s.xlen := State.bits_le_xlen_of_x64 h
  have hadd {w : Nat} (hw : w ≤ s.xlen) : WritesPairs s rd rs1 rs2 w
      (fun a b v => v.toNat = (a.toNat + b.toNat) % 2 ^ w) (packed w (· + ·) p rd rs1 rs2 s) :=
    writesPairs_packed hp rd rs1 rs2 hw BitVec.toNat_add
  have hincr {w : Nat} (hw : w ≤ s.xlen) : WritesPairs s rd rs1 rs2 w
      (fun a b v => v.toNat = (a.toNat + b.toNat + 1) % 2 ^ w) (packed w addIncr p rd rs1 rs2 s) :=
    writesPairs_packed hp rd rs1 rs2 hw toNat_addIncr
  have hsub {w : Nat} (hw : w ≤ s.xlen) : WritesPairs s rd rs1 rs2 w
      (fun a b v => (v.toNat : Int) = ((a.toNat : Int) - b.toNat) % 2 ^ w) (packed w (· - ·) p rd rs1 rs2 s) :=
    writesPairs_packed hp rd rs1 rs2 hw natCast_toNat_sub
  have hdecr {w : Nat} (hw : w ≤ s.xlen) : WritesPairs s rd rs1 rs2 w
      (fun a b v => (v.toNat : Int) = ((a.toNat : Int) - b.toNat - 1) % 2 ^ w) (packed w subDecr p rd rs1 rs2 s) :=
    writesPairs_packed hp rd rs1 rs2 hw natCast_toNat_subDecr
  exact ⟨hadd h8, hadd h16, hadd s.xlen_ge, fun h => hadd (h64 h),
    hincr h8, hincr h16, hincr s.xlen_ge, fun h => hincr (h64 h),
    hsub h8, hsub h16, hsub s.xlen_ge, fun h => hsub (h64 h),
    hdecr h8, hdecr h16, hdecr s.xlen_ge, fun h => hdecr (h64 h)⟩

/-- Settles O46: each arm is `packed` of a saturating operation, at each size. -/
theorem packedSaturatingResults : Obligations.PackedSaturatingResults := by
  intro s p rd rs1 rs2 hp
  have h8 : 8 ≤ s.xlen := s.bits_le_xlen (n := 1) (by decide)
  have h16 : 16 ≤ s.xlen := s.bits_le_xlen (n := 2) (by decide)
  have h64 (h : s.cfg.xlen = .x64) : 64 ≤ s.xlen := State.bits_le_xlen_of_x64 h
  have haddU {w : Nat} (hw : w ≤ s.xlen) : WritesPairs s rd rs1 rs2 w
      (fun a b v => v.toNat = min (a.toNat + b.toNat) (2 ^ w - 1)) (packed w addSatU p rd rs1 rs2 s) :=
    writesPairs_packed hp rd rs1 rs2 hw toNat_addSatU
  have haddS {w : Nat} (hpos : 0 < w) (hw : w ≤ s.xlen) : WritesPairs s rd rs1 rs2 w
      (fun a b v => v.toInt = clampS w (a.toInt + b.toInt)) (packed w addSatS p rd rs1 rs2 s) :=
    writesPairs_packed hp rd rs1 rs2 hw fun _ _ => toInt_satS hpos _
  have hsubU {w : Nat} (hw : w ≤ s.xlen) : WritesPairs s rd rs1 rs2 w
      (fun a b v => v.toNat = a.toNat - b.toNat) (packed w subSatU p rd rs1 rs2 s) :=
    writesPairs_packed hp rd rs1 rs2 hw toNat_subSatU
  have hsubS {w : Nat} (hpos : 0 < w) (hw : w ≤ s.xlen) : WritesPairs s rd rs1 rs2 w
      (fun a b v => v.toInt = clampS w (a.toInt - b.toInt)) (packed w subSatS p rd rs1 rs2 s) :=
    writesPairs_packed hp rd rs1 rs2 hw fun _ _ => toInt_satS hpos _
  exact ⟨haddU h8, haddU h16, haddU s.xlen_ge, fun h => haddU (h64 h), haddS (by decide) h8, haddS (by decide) h16,
    haddS (by decide) s.xlen_ge, fun h => haddS (by decide) (h64 h),
    hsubU h8, hsubU h16, hsubU s.xlen_ge, fun h => hsubU (h64 h), hsubS (by decide) h8, hsubS (by decide) h16,
    hsubS (by decide) s.xlen_ge, fun h => hsubS (by decide) (h64 h)⟩

/-- Settles O47: each arm is `packed` of an average, on bytes and on 16-bit subwords. -/
theorem packedAverageResults : Obligations.PackedAverageResults := by
  intro s p rd rs1 rs2 hp
  refine ⟨?odd8, ?odd16, ?raz8, ?raz16⟩
  case odd8 => exact writesPairs_packed8 hp rd rs1 rs2 fun a b => natCast_toNat_average a b (by decide)
  case odd16 => exact writesPairs_packed16 hp rd rs1 rs2 fun a b => natCast_toNat_average a b (by decide)
  case raz8 => exact writesPairs_packed8 hp rd rs1 rs2 toNat_averageRaz
  case raz16 => exact writesPairs_packed16 hp rd rs1 rs2 toNat_averageRaz

/-- Settles O48: each arm is `packed` of `subAverage` under PSUBAVG_TOP. -/
theorem packedSubtractAverageResults : Obligations.PackedSubtractAverageResults := by
  intro s p rd rs1 rs2 hp
  refine ⟨?bytes, ?halves⟩
  case bytes =>
    exact writesPairs_packed8 hp rd rs1 rs2 fun a b => subAverage_eq_ofInt a b s.cfg.subAvgTop (by decide)
  case halves =>
    exact writesPairs_packed16 hp rd rs1 rs2 fun a b => subAverage_eq_ofInt a b s.cfg.subAvgTop (by decide)

/-- Settles O50: each arm is `packed` of the signed maximum or minimum. -/
theorem packedMaxMinResults : Obligations.PackedMaxMinResults := by
  intro s p rd rs1 rs2 hp
  exact ⟨writesPairs_packed8 hp rd rs1 rs2 toInt_maxS, writesPairs_packed16 hp rd rs1 rs2 toInt_maxS,
    writesPairs_packed8 hp rd rs1 rs2 toInt_minS, writesPairs_packed16 hp rd rs1 rs2 toInt_minS⟩

/-- Settles O51: each arm is `packed` of a shift-and-add by 1, 2 or 3, to the left under PSHIFTADD_SHIFT. -/
theorem packedShiftAddResults : Obligations.PackedShiftAddResults := by
  intro s p rd rs1 rs2 hp
  have hleft (sa : Nat) : WritesPairs s rd rs1 rs2 16
      (fun a b v => v.toInt = clampS 16 (shiftedLeft s.cfg.shiftAddShift sa a.toInt + b.toInt))
      (packed 16 (shiftLeftAdd s.cfg.shiftAddShift sa) p rd rs1 rs2 s) :=
    writesPairs_packed16 hp rd rs1 rs2 fun a b => toInt_shiftLeftAdd sa a b s.cfg.shiftAddShift
  have hright (sa : Nat) : WritesPairs s rd rs1 rs2 16
      (fun a b v => v.toInt = clampS 16 (a.toInt / 2 ^ sa + b.toInt)) (packed 16 (shiftRightAdd sa) p rd rs1 rs2 s) :=
    writesPairs_packed16 hp rd rs1 rs2 (toInt_shiftRightAdd sa)
  exact ⟨hleft 1, hleft 2, hleft 3, hright 1, hright 2, hright 3⟩

end Sys2Proof.Machine
end

section
/-! PROOFS. The immediate loads and the packed shifts, executed and refused (42_memory_access.md R160, R161;
47_shift_packed.md R260 to R266): a deposited half-word bit by bit, and one shift amount for all lanes. -/

namespace Sys2Proof.Machine
open Sys2Proof

/-! ### The packed shifts: an amount below the subword width shifts every lane, another is refused (D23) -/

section ExecutedShifts
variable {s : State} {p : Pred} (hp : s.pred p = true) (rd rs1 : Reg) {w k : Nat}
include hp

theorem writesLanes_shiftLanes {d : LaneShift} {B : BitVec w → Nat → Nat → Bool} (hw : w ≤ s.xlen)
    (hB : ∀ (a : BitVec w) (i : Nat), i < w → (shiftLane d k a).getLsbD i = B a k i) (hk : k < w) :
    WritesLanes s rd w (fun j v => ∀ i, i < w → v.getLsbD i = B (lane w (s.reg s.xlen rs1) j) k i)
      (sized w s (guarded p s (shiftLanes w d k rd rs1 s))) := by
  rw [sized_of_le _ hw, shiftLanes, if_neg (Nat.not_le.mpr hk)]
  refine writesLanes_guarded_writeReg hp rd _ fun j hj => ?_
  rw [lane_mapLanes w _ _ j hj]
  exact hB _

theorem shiftLanes_of_le (d : LaneShift) (hw : w ≤ s.xlen) (hk : w ≤ k) :
    sized w s (guarded p s (shiftLanes w d k rd rs1 s)) = .fault (.unspecifiedBehaviour .packedShiftRange) := by
  rw [sized_of_le _ hw, guarded_of_true _ hp, shiftLanes, if_pos hk, unspecified]

/-- The three directions at one size and amount. -/
theorem writesLanes_shiftLanes_left (hw : w ≤ s.xlen) (hk : k < w) :
    WritesLanes s rd w (fun j v => ∀ i, i < w → v.getLsbD i = leftBit (lane w (s.reg s.xlen rs1) j) k i)
      (sized w s (guarded p s (shiftLanes w .l k rd rs1 s))) :=
  writesLanes_shiftLanes hp rd rs1 hw (fun a _ hi => getLsbD_shiftLeft_eq_leftBit a k hi) hk

theorem writesLanes_shiftLanes_right (hw : w ≤ s.xlen) (hk : k < w) :
    WritesLanes s rd w (fun j v => ∀ i, i < w → v.getLsbD i = rightBit (lane w (s.reg s.xlen rs1) j) k i)
      (sized w s (guarded p s (shiftLanes w .r k rd rs1 s))) :=
  writesLanes_shiftLanes hp rd rs1 hw (fun a i _ => getLsbD_ushiftRight_eq_rightBit a k i) hk

theorem writesLanes_shiftLanes_arith (hw : w ≤ s.xlen) (hk : k < w) :
    WritesLanes s rd w (fun j v => ∀ i, i < w → v.getLsbD i = arithBit (lane w (s.reg s.xlen rs1) j) k i)
      (sized w s (guarded p s (shiftLanes w .ra k rd rs1 s))) :=
  writesLanes_shiftLanes hp rd rs1 hw (fun a _ hi => getLsbD_sshiftRight_eq_arithBit a k hi) hk

end ExecutedShifts

/-! ### The obligations -/

/-- Settles O31: both arms deposit the immediate as a field of 16 bits, from bit 16 or from bit 0. -/
theorem loadImmediateResults : Obligations.LoadImmediateResults := by
  intro s p rd imm16 hp
  have hfit : 16 ≤ s.xlen := s.bits_le_xlen (n := 2) (by decide)
  refine ⟨?high, ?low⟩
  case high =>
    refine writesBits_guarded_writeReg hp rd _ fun i hi => ?_
    rw [getLsbD_depositBits hi _ _ hfit, getLsbD_setWidth_of_lt imm16 (by omega)]
  case low =>
    refine writesBits_guarded_writeReg hp rd _ fun i hi => ?_
    rw [getLsbD_depositBits hi _ _ hfit, getLsbD_setWidth_of_lt imm16 (by omega), Nat.sub_zero]
    simp only [Nat.zero_le, true_and, Nat.zero_add]

/-- Settles O54: each arm shifts the lanes by the whole register Rs2. -/
theorem packedShiftResults : Obligations.PackedShiftResults := by
  intro s p rd rs1 rs2 hp a k
  have h16 : 16 ≤ s.xlen := s.bits_le_xlen (n := 2) (by decide)
  have h64 (h : s.cfg.xlen = .x64) : 64 ≤ s.xlen := State.bits_le_xlen_of_x64 h
  have hl {w : Nat} (hw : w ≤ s.xlen) := writesLanes_shiftLanes_left hp rd rs1 (k := k) hw
  have hr {w : Nat} (hw : w ≤ s.xlen) := writesLanes_shiftLanes_right hp rd rs1 (k := k) hw
  have hra {w : Nat} (hw : w ≤ s.xlen) := writesLanes_shiftLanes_arith hp rd rs1 (k := k) hw
  have hrefused {w : Nat} (d : LaneShift) (hw : w ≤ s.xlen) := shiftLanes_of_le hp rd rs1 (k := k) d hw
  exact ⟨hl h16, hr h16, hra h16, hl s.xlen_ge, hr s.xlen_ge, hra s.xlen_ge,
    fun h => hl (h64 h), fun h => hr (h64 h), fun h => hra (h64 h),
    hrefused .l h16, hrefused .r h16, hrefused .ra h16,
    hrefused .l s.xlen_ge, hrefused .r s.xlen_ge, hrefused .ra s.xlen_ge,
    fun h => hrefused .l (h64 h), fun h => hrefused .r (h64 h), fun h => hrefused .ra (h64 h)⟩

/-- Settles O55: each arm shifts the lanes by imm5, which only 16-bit lanes can refuse. -/
theorem packedShiftImmediateResults : Obligations.PackedShiftImmediateResults := by
  intro s p rd rs1 imm5 hp a k
  have h16 : 16 ≤ s.xlen := s.bits_le_xlen (n := 2) (by decide)
  have h64 (h : s.cfg.xlen = .x64) : 64 ≤ s.xlen := State.bits_le_xlen_of_x64 h
  have hl {w : Nat} (hw : w ≤ s.xlen) := writesLanes_shiftLanes_left hp rd rs1 (k := k) hw
  have hr {w : Nat} (hw : w ≤ s.xlen) := writesLanes_shiftLanes_right hp rd rs1 (k := k) hw
  have hra {w : Nat} (hw : w ≤ s.xlen) := writesLanes_shiftLanes_arith hp rd rs1 (k := k) hw
  have hrefused (d : LaneShift) := shiftLanes_of_le hp rd rs1 (k := k) d h16
  exact ⟨hl h16, hr h16, hra h16, hl s.xlen_ge, hr s.xlen_ge, hra s.xlen_ge,
    fun h => hl (h64 h), fun h => hr (h64 h), fun h => hra (h64 h), hrefused .l, hrefused .r, hrefused .ra⟩

end Sys2Proof.Machine
end

section
/-! PROOFS. The subword permutations mix, mux by table and perm, executed (48_subword_permutation.md R271 to R280): an
ordinal from the left is a lane, and each result lane is one source lane. -/

namespace Sys2Proof.Machine
open Sys2Proof

/-- Lane k is the ordinal n - k from the left (00_scope.md R8, R9). -/
theorem ord_laneCount_sub {N w : Nat} (v : BitVec N) {k : Nat} (hk : k ≤ laneCount N w) :
    ord w v (laneCount N w - k) = lane w v k := by
  rw [ord, Nat.sub_sub_self hk]

/-! ### mix (R271, R272) -/

section Mix
variable {N w : Nat}

/-- Registers that hold pairs of subwords hold an even number of them. -/
theorem laneCount_even (hw : 0 < w) (h : 2 * w ∣ N) : laneCount N w % 2 = 0 := by
  obtain ⟨c, rfl⟩ := h
  rw [laneCount, Nat.mul_comm 2 w, Nat.mul_assoc, Nat.mul_div_cancel_left _ hw, Nat.mul_mod_right]

variable (a b : BitVec N) {k : Nat} (heven : laneCount N w % 2 = 0) (hk : k < laneCount N w)
include heven hk

/-- With an even number of subwords, the odd ordinals are the odd lanes. -/
theorem lane_mixLeft :
    lane w (mixLeft w a b) k = if k % 2 = 1 then lane w a k else lane w b (k + 1) := by
  rw [mixLeft, lane_ofOrds N w _ k hk]
  by_cases hodd : k % 2 = 1
  · rw [if_pos hodd, if_pos (by omega), ord_laneCount_sub a hk.le]
  · rw [if_neg hodd, if_neg (by omega), Nat.sub_sub, ord_laneCount_sub b hk]

theorem lane_mixRight :
    lane w (mixRight w a b) k = if k % 2 = 1 then lane w a (k - 1) else lane w b k := by
  rw [mixRight, lane_ofOrds N w _ k hk]
  by_cases hodd : k % 2 = 1
  · have hprev : laneCount N w - k + 1 = laneCount N w - (k - 1) := by omega
    rw [if_pos hodd, if_pos (by omega), hprev, ord_laneCount_sub a (by omega)]
  · rw [if_neg hodd, if_neg (by omega), ord_laneCount_sub b hk.le]

end Mix

section ExecutedMix
variable {s : State} {p : Pred} (hp : s.pred p = true) (rd rs1 rs2 : Reg) {w : Nat} (hw : 0 < w)
  (hpairs : 2 * w ∣ s.xlen)
include hp hw hpairs

theorem writesLanes_mix_left : WritesLanes s rd w
    (fun k v => v = if k % 2 = 1 then lane w (s.reg s.xlen rs1) k else lane w (s.reg s.xlen rs2) (k + 1))
    (mix w true p rd rs1 rs2 s) := by
  rw [mix, sized_of_le _ (Nat.le_of_dvd (by have := s.xlen_ge; omega) hpairs), if_pos rfl]
  exact writesLanes_guarded_writeReg hp rd _ fun k hk => lane_mixLeft _ _ (laneCount_even hw hpairs) hk

theorem writesLanes_mix_right : WritesLanes s rd w
    (fun k v => v = if k % 2 = 1 then lane w (s.reg s.xlen rs1) (k - 1) else lane w (s.reg s.xlen rs2) k)
    (mix w false p rd rs1 rs2 s) := by
  rw [mix, sized_of_le _ (Nat.le_of_dvd (by have := s.xlen_ge; omega) hpairs), if_neg Bool.false_ne_true]
  exact writesLanes_guarded_writeReg hp rd _ fun k hk => lane_mixRight _ _ (laneCount_even hw hpairs) hk

end ExecutedMix

/-! ### mux by table (R274 to R276, R278, D27) -/

section Tables
variable {N : Nat} (table : List Nat) (a : BitVec N)

theorem lane_permuteBytes {k : Nat} (hk : k < laneCount N 8) :
    lane 8 (permuteBytes table a) k = ord 8 a (table.getD (laneCount N 8 - k - 1) 0) :=
  lane_ofOrds N 8 _ k hk

theorem ord_permuteBytes {i : Nat} (h1 : 1 ≤ i) (hi : i ≤ laneCount N 8) :
    ord 8 (permuteBytes table a) i = ord 8 a (table.getD (i - 1) 0) :=
  ord_ofOrds N 8 _ i h1 hi

/-- A second table that names, from the first, the source byte of every ordinal restores the value. -/
theorem permuteBytes_permuteBytes (hN : 8 ∣ N) (first : List Nat)
    (h : ∀ i, i ≤ laneCount N 8 → 1 ≤ i → 1 ≤ table.getD (i - 1) 0 ∧ table.getD (i - 1) 0 ≤ laneCount N 8
      ∧ first.getD (table.getD (i - 1) 0 - 1) 0 = i) :
    permuteBytes table (permuteBytes first a) = a := by
  refine eq_of_lanes_eq hN fun k hk => ?_
  obtain ⟨hlo, hhi, hback⟩ := h (laneCount N 8 - k) (Nat.sub_le _ _) (by omega)
  rw [lane_permuteBytes _ _ hk, ord_permuteBytes _ _ hlo hhi, hback, ord_laneCount_sub a hk.le]

end Tables

/-- The number of bytes of a register is twice the number of its half-words. -/
theorem State.laneCount_eight (s : State) : laneCount s.xlen 8 = 2 * (s.xlen / 16) := by
  rcases s.xlen_cases with h | h <;> rw [h, laneCount]

section ReferenceTables
variable (x : Xlen)

theorem reference_shuf_getD : ∀ i, i ≤ x.bits / 8 → 1 ≤ i →
    (MuxTable.reference x).shuf.getD (i - 1) 0 = if i % 2 = 1 then (i + 1) / 2 else x.bits / 16 + i / 2 := by
  cases x <;> decide

theorem reference_alt_getD : ∀ i, i ≤ x.bits / 8 → 1 ≤ i →
    (MuxTable.reference x).alt.getD (i - 1) 0 = if i ≤ x.bits / 16 then 2 * i - 1 else 2 * (i - x.bits / 16) := by
  cases x <;> decide

theorem reference_mix_getD : ∀ i, i ≤ x.bits / 8 → 1 ≤ i →
    (MuxTable.reference x).mix.getD (i - 1) 0
      = if i ≤ x.bits / 16 then (if i % 2 = 1 then i else x.bits / 16 + i - 1)
        else if (i - x.bits / 16) % 2 = 1 then i - x.bits / 16 + 1 else i := by
  cases x <;> decide

/-- mux.alt takes back what mux.shuf does. -/
theorem reference_shuf_alt_getD : ∀ i, i ≤ x.bits / 8 → 1 ≤ i →
    1 ≤ (MuxTable.reference x).alt.getD (i - 1) 0 ∧ (MuxTable.reference x).alt.getD (i - 1) 0 ≤ x.bits / 8
      ∧ (MuxTable.reference x).shuf.getD ((MuxTable.reference x).alt.getD (i - 1) 0 - 1) 0 = i := by
  cases x <;> decide

end ReferenceTables

section ExecutedTables
variable {s : State} {p : Pred} (hp : s.pred p = true) (rd : Reg) (a : BitVec s.xlen)
include hp

theorem writesLanes_permuteBytes (table : List Nat) :
    WritesLanes s rd 8 (fun k v => v = lane 8 a (s.xlen / 8 - table.getD (s.xlen / 8 - 1 - k) 0))
      (guarded p s (writeReg s rd (permuteBytes table a))) :=
  writesLanes_guarded_writeReg hp rd _ fun k hk => by
    rw [lane_permuteBytes _ _ hk, Nat.sub_right_comm]
    rfl

/-- A table given by a formula over the ordinals. -/
theorem writesLanes_permuteBytes_of_getD {table : List Nat} {f : Nat → Nat}
    (hf : ∀ i, i ≤ s.xlen / 8 → 1 ≤ i → table.getD (i - 1) 0 = f i) :
    WritesLanes s rd 8 (fun k v => v = ord 8 a (f (2 * (s.xlen / 16) - k)))
      (guarded p s (writeReg s rd (permuteBytes table a))) :=
  writesLanes_guarded_writeReg hp rd _ fun k hk => by
    rw [lane_permuteBytes _ _ hk, hf (laneCount s.xlen 8 - k) (Nat.sub_le _ _) (by omega), s.laneCount_eight]

/-- mux.alt of the register that an executed mux.shuf wrote, which leaves the configuration. -/
theorem exec_muxShuf_muxAlt {rs1 : Reg} (hrd : rd ≠ 0) :
    ∃ t u, exec (.muxShuf p rd rs1) s = .next t ∧ exec (.muxAlt p rd rd) t = .next u
      ∧ u.reg s.xlen rd = permuteBytes s.cfg.muxTable.alt (permuteBytes s.cfg.muxTable.shuf (s.reg s.xlen rs1)) := by
  obtain ⟨t, u, hshuf, halt, hvalue⟩ := guarded_writeReg_twice hp rd
    (permuteBytes s.cfg.muxTable.shuf (s.reg s.xlen rs1)) hrd (permuteBytes s.cfg.muxTable.alt)
  have hcfg : t.cfg = s.cfg := by rw [writeReg_next ((guarded_of_true _ hp).symm.trans hshuf)]; simp
  refine ⟨t, u, hshuf, ?_, hvalue⟩
  rw [← hcfg] at halt
  exact halt

end ExecutedTables

/-! ### perm (R280, D26) -/

/-- The selector group, from the right, that controls lane k of n lanes. -/
def selectorGroup (selectors : Side) (n k : Nat) : Nat :=
  match selectors with
  | .left => k
  | .right => n - 1 - k

/-- The source lane that a selector names among n. -/
def selectedLane (counting : Side) (n sel : Nat) : Nat :=
  match counting with
  | .left => n - 1 - sel
  | .right => sel

/-- The bits of a selector. -/
def selectorBits (x : Xlen) : Nat :=
  match x with
  | .x64 => 2
  | .x32 => 1

theorem log2_laneCount (x : Xlen) : Nat.log2 (laneCount x.bits 16) = selectorBits x := by cases x <;> decide

theorem two_pow_selectorBits (x : Xlen) : 2 ^ selectorBits x = laneCount x.bits 16 := by cases x <;> rfl

section Perm
variable {N : Nat} (a c : BitVec N) (l : PermLayout) {k : Nat}

/-- The group of ordinal n - i is group i from the right. -/
theorem permSelector_eq {g j i : Nat} (hlog : Nat.log2 (laneCount N 16) = g) (hj : laneCount N 16 - j = i) :
    permSelector c j = c.toNat / 2 ^ (g * i) % 2 ^ g := by
  rw [permSelector, hlog, hj, BitVec.extractLsb'_toNat, Nat.shiftRight_eq_div_pow]

theorem lane_permute {g : Nat} (hlog : Nat.log2 (laneCount N 16) = g) (hg : 2 ^ g = laneCount N 16)
    (hk : k < laneCount N 16) :
    lane 16 (permute l a c) k = lane 16 a (selectedLane l.counting (laneCount N 16)
      (c.toNat / 2 ^ (g * selectorGroup l.selectors (laneCount N 16) k) % 2 ^ g)) := by
  have hleft := permSelector_eq c (j := laneCount N 16 - k) hlog (Nat.sub_sub_self hk.le)
  have hright := permSelector_eq c (j := laneCount N 16 + 1 - (laneCount N 16 - k)) (i := laneCount N 16 - 1 - k) hlog
    (by omega)
  have hsel (i : Nat) : c.toNat / 2 ^ (g * i) % 2 ^ g < laneCount N 16 := hg ▸ Nat.mod_lt _ (Nat.two_pow_pos g)
  have hfromLeft (sel : Nat) : ord 16 a (sel + 1) = lane 16 a (laneCount N 16 - 1 - sel) := by
    rw [ord, Nat.sub_sub, Nat.add_comm]
  obtain ⟨selectors, counting⟩ := l
  rw [permute, lane_ofOrds N 16 _ k hk]
  cases selectors with
  | left =>
    cases counting with
    | left => exact (congrArg (fun sel => ord 16 a (sel + 1)) hleft).trans (hfromLeft _)
    | right =>
      exact (congrArg (fun sel => ord 16 a (laneCount N 16 - sel)) hleft).trans (ord_laneCount_sub a (hsel _).le)
  | right =>
    cases counting with
    | left => exact (congrArg (fun sel => ord 16 a (sel + 1)) hright).trans (hfromLeft _)
    | right =>
      exact (congrArg (fun sel => ord 16 a (laneCount N 16 - sel)) hright).trans (ord_laneCount_sub a (hsel _).le)

end Perm

/-! ### The obligations -/

/-- Settles O56: each arm is `mix` of a size of which a register holds pairs. -/
theorem mixResults : Obligations.MixResults := by
  intro s p rd rs1 rs2 hp a b
  have h8 : 2 * 8 ∣ s.xlen := by rcases s.xlen_cases with h | h <;> omega
  have h16 : 2 * 16 ∣ s.xlen := by rcases s.xlen_cases with h | h <;> omega
  have h32 (h : s.cfg.xlen = .x64) : 2 * 32 ∣ s.xlen := by rw [State.xlen, h]; rfl
  exact ⟨writesLanes_mix_left hp rd rs1 rs2 (by decide) h8, writesLanes_mix_right hp rd rs1 rs2 (by decide) h8,
    writesLanes_mix_left hp rd rs1 rs2 (by decide) h16, writesLanes_mix_right hp rd rs1 rs2 (by decide) h16,
    fun h => writesLanes_mix_left hp rd rs1 rs2 (by decide) (h32 h),
    fun h => writesLanes_mix_right hp rd rs1 rs2 (by decide) (h32 h)⟩

/-- Settles O58: each arm permutes the bytes by one table of MUX_TABLE. -/
theorem muxTableResults : Obligations.MuxTableResults := by
  intro s p rd rs1 hp a n placed
  exact ⟨writesLanes_permuteBytes hp rd a _, writesLanes_permuteBytes hp rd a _, writesLanes_permuteBytes hp rd a _⟩

/-- Settles O59: the entries of the reference tables are the formulas, and mux.alt takes back mux.shuf. -/
theorem muxReferenceFormulas : Obligations.MuxReferenceFormulas := by
  intro s p rd rs1 hp href a h byte
  refine ⟨?shuf, ?alt, ?mix, fun hrd => ?restores⟩
  case shuf =>
    have htable := reference_shuf_getD s.cfg.xlen
    rw [← href] at htable
    exact writesLanes_permuteBytes_of_getD hp rd a htable
  case alt =>
    have htable := reference_alt_getD s.cfg.xlen
    rw [← href] at htable
    exact writesLanes_permuteBytes_of_getD hp rd a htable
  case mix =>
    have htable := reference_mix_getD s.cfg.xlen
    rw [← href] at htable
    exact writesLanes_permuteBytes_of_getD hp rd a htable
  case restores =>
    obtain ⟨t, u, hshuf, halt, hvalue⟩ := exec_muxShuf_muxAlt hp rd (rs1 := rs1) hrd
    refine ⟨t, u, hshuf, halt, hvalue.trans ?_⟩
    rw [href]
    exact permuteBytes_permuteBytes _ _ s.eight_dvd_xlen _ (reference_shuf_alt_getD s.cfg.xlen)

/-- Settles O60: the arm is a guarded write of `permute`, whose lanes are selected by log2 n bits. -/
theorem permResult : Obligations.PermResult := by
  intro s p rd rs1 rs2 hp a c n g
  exact writesLanes_guarded_writeReg hp rd _ fun k hk =>
    lane_permute a c s.cfg.permLayout (log2_laneCount s.cfg.xlen) (two_pow_selectorBits s.cfg.xlen) hk

end Sys2Proof.Machine
end
